-- ==== Sys2Proof/Word.lean ====
section
/-! DEFINITION. The word types of the block and its plainest data: bytes, frames, duty-cycle words, colour triples. -/

namespace Sys2Proof

/-- `u8` of 00_scope.md section 5.1. -/
abbrev Byte := BitVec 8

/-- `u16` and the bits of an `s16` of 00_scope.md section 5.1. -/
abbrev Half := BitVec 16

/-- One duty-cycle code word (R107): bit 15 `POL`, bits 14:0 `CMP`. -/
abbrev Code := BitVec 16

/-- One frame of the event port or the command port: its bytes, byte 0 first (R90, R105). -/
abbrev Frame := List Byte

/-- An RGB triple. -/
structure RGB where
  r : Byte
  g : Byte
  b : Byte
deriving DecidableEq, Repr

/-- An HSV triple; hue 0..255 is the full circle (R180). -/
structure HSV where
  h : Byte
  s : Byte
  v : Byte
deriving DecidableEq, Repr

/-- The six `u8` fields of one pixel register (R21), also the shape of `cfg` (R23). -/
structure Pixel where
  rgb : RGB
  hsv : HSV
deriving DecidableEq, Repr

/-- Three `s16` registers, axes x, y, z (R39). -/
structure Axes where
  x : Half
  y : Half
  z : Half
deriving DecidableEq, Repr

end Sys2Proof
end

