-- ==== Sys2Proof/Syntax.lean ====
section
/-! DEFINITION. The enumerations of the spec and the instructions: one constructor per row of spec/opcode_table.json. -/

namespace Sys2Proof

/-- The Animation Mode (R28, R96), in the order of its codes 0 to 7. -/
inductive AnimMode where
  | static
  | blink
  | pulse
  | rainbow
  | colorShift
  | clapToggle
  | clapPulse
  | waveRainbow
deriving DecidableEq, Repr

/-- The Operating State (R26), in the order of its codes 0 to 5; codes 6 and 7 are never held. -/
inductive OpState where
  | shuttingDown
  | idle
  | advertising
  | linkConnected
  | broadcastReceiving
  | poweredOff
deriving DecidableEq, Repr

/-- The six timers (R33), in index order. -/
inductive TimerId where
  | long
  | cool
  | batt
  | adv
  | off
  | tick
deriving DecidableEq, Repr

/-- Where a row of the opcode table lives: the table's column `port`.
Only `event` carries input from outside the block (30_encoding.md, R90). -/
inductive Port where
  | event      -- the event port (R92)
  | timerBank  -- the expiries the timer bank raises itself (R93)
  | command    -- the command port (R106)
  | animMode   -- the value of the `anim_mode` register (R96)
  | waveform   -- the words of the waveform port (R108)
deriving DecidableEq, Repr

/-- The rows of spec/opcode_table.json, in its order.
Operands are as R91 and R98 assemble them; an operand outside its legal range is not an encoding error
(R97: the rule of the event drops it), so the operands keep their full width. -/
inductive Instr where
  -- the 13 events (R92)
  | nop
  | tb
  | btnDown (a : Byte)
  | btnUp (a : Byte)
  | accel (x y z : Half)
  | linkUp
  | linkDown
  | linkCmd (mode red green blue : Byte)
  | bcast (ch : Byte) (payload : BitVec 63)
  | bcastDrop
  | batt (w : Half)
  | ioFail (a : Byte)
  | groupSet (a : Byte)
  -- the 6 internal expiries (R93)
  | xLong
  | xCool
  | xBatt
  | xAdv
  | xOff
  | xTick
  -- the 13 commands (R106)
  | waveStart
  | sensorPwr (b : Byte)
  | radioAdvStart
  | radioAdvStop
  | radioDisconnect
  | radioStatus (n pct : Byte)
  | radioSetGroup (group channel : Byte)
  | storeGroup (group : Byte)
  | platformOff
  | ledDriverOff
  | inputIrqOff
  | battSampleReq
  | fatalReport (src : Byte)
  -- the 8 Animation Mode values, each naming its tick rule (R96)
  | modeStatic
  | modeBlink
  | modePulse
  | modeRainbow
  | modeColorShift
  | modeClapToggle
  | modeClapPulse
  | modeWaveRainbow
  -- the 3 duty-cycle code values (R108)
  | codeZero
  | codeShort
  | codeLong
deriving DecidableEq, Repr

end Sys2Proof
end

