-- ==== Sys2Proof/Config.lean ====
section
/-! DEFINITION. The configuration record `Cfg` (R2), its reference value `CfgRef`, and the one open value of the spec. -/

namespace Sys2Proof

/-- A configuration of the Animation Driver: an Animation Mode and an RGB colour
(an entry of `BUTTON_MODE_TABLE`, a baseline, a link command, an unpacked descriptor). -/
structure ModeEntry where
  mode : AnimMode
  color : RGB
deriving DecidableEq, Repr

/-- The configuration record (R2): every quantity the source leaves to the implementation.
It is fixed before reset and no rule writes it. -/
structure Cfg where
  /-- `N_PIXELS` -/
  nPixels : Nat
  /-- `RESET_CODES` -/
  resetCodes : Nat
  /-- `TICK_NS` -/
  tickNs : Nat
  /-- `SLOT_TICKS` -/
  slotTicks : Nat
  /-- `LONG_TICKS` -/
  longTicks : Nat
  /-- `SHORT_TICKS` -/
  shortTicks : Nat
  /-- `TICK_MS` -/
  tickMs : BitVec 32
  /-- `LONG_PRESS_MS` -/
  longPressMs : BitVec 32
  /-- `COOLDOWN_MS` -/
  cooldownMs : BitVec 32
  /-- `BATT_PERIOD_MS` -/
  battPeriodMs : BitVec 32
  /-- `ADV_TIMEOUT_MS` -/
  advTimeoutMs : BitVec 32
  /-- `OFF_DELAY_MS` -/
  offDelayMs : BitVec 32
  /-- `BLINK_STEP` -/
  blinkStep : Byte
  /-- `PULSE_STEP` -/
  pulseStep : Byte
  /-- `RAINBOW_STEP` -/
  rainbowStep : Byte
  /-- `SHIFT_STEP` -/
  shiftStep : Byte
  /-- `CLAP_HUE_STEP` -/
  clapHueStep : Byte
  /-- `CP_DECAY` -/
  cpDecay : Byte
  /-- `CP_MIN` -/
  cpMin : Byte
  /-- `WAVE_HUE_STEP` -/
  waveHueStep : Byte
  /-- `WAVE_SAT` -/
  waveSat : Byte
  /-- `WAVE_VAL` -/
  waveVal : Byte
  /-- `SHIFT_END_B` -/
  shiftEndB : HSV
  /-- `SINE_LUT`, the index space `SINE` (R60) -/
  sineLut : Vector Byte 256
  /-- `TH_CLAP` -/
  thClap : Nat
  /-- `TH_WAVE` -/
  thWave : Nat
  /-- `BATT_RAW_EMPTY` -/
  battRawEmpty : Half
  /-- `BATT_RAW_FULL` -/
  battRawFull : Half
  /-- `BATT_SHUTDOWN_RAW` -/
  battShutdownRaw : Half
  /-- `BUTTON_PIN` -/
  buttonPin : Byte
  /-- `GROUP_RESET` -/
  groupReset : Fin 6
  /-- `BUTTON_MODE_TABLE`, the index space `BMT` (R60) -/
  buttonModes : Vector ModeEntry 9
  /-- `BASELINE_IDLE` -/
  baselineIdle : ModeEntry
  /-- `BASELINE_ADV` -/
  baselineAdv : ModeEntry
  /-- `BASELINE_LINK` -/
  baselineLink : ModeEntry
  /-- `BASELINE_LOWBATT` -/
  baselineLowBatt : ModeEntry
deriving DecidableEq, Repr

/-! The reference easing table, the 256 values of R190 in index order. -/

def sineRows0 : List Nat :=
  [0, 0, 0, 0, 1, 1, 1, 2, 2, 3, 4, 5, 5, 6, 7, 9,
   10, 11, 12, 14, 15, 17, 18, 20, 21, 23, 25, 27, 29, 31, 33, 35]

def sineRows1 : List Nat :=
  [37, 40, 42, 44, 47, 49, 52, 54, 57, 59, 62, 65, 67, 70, 73, 76,
   79, 82, 85, 88, 90, 93, 97, 100, 103, 106, 109, 112, 115, 118, 121, 124]

def sineRows2 : List Nat :=
  [127, 131, 134, 137, 140, 143, 146, 149, 152, 155, 158, 162, 165, 167, 170, 173,
   176, 179, 182, 185, 188, 190, 193, 196, 198, 201, 203, 206, 208, 211, 213, 215]

def sineRows3 : List Nat :=
  [218, 220, 222, 224, 226, 228, 230, 232, 234, 235, 237, 238, 240, 241, 243, 244,
   245, 246, 248, 249, 250, 250, 251, 252, 253, 253, 254, 254, 254, 255, 255, 255]

def sineRows4 : List Nat :=
  [255, 255, 255, 255, 254, 254, 254, 253, 253, 252, 251, 250, 250, 249, 248, 246,
   245, 244, 243, 241, 240, 238, 237, 235, 234, 232, 230, 228, 226, 224, 222, 220]

def sineRows5 : List Nat :=
  [218, 215, 213, 211, 208, 206, 203, 201, 198, 196, 193, 190, 188, 185, 182, 179,
   176, 173, 170, 167, 165, 162, 158, 155, 152, 149, 146, 143, 140, 137, 134, 131]

def sineRows6 : List Nat :=
  [127, 124, 121, 118, 115, 112, 109, 106, 103, 100, 97, 93, 90, 88, 85, 82,
   79, 76, 73, 70, 67, 65, 62, 59, 57, 54, 52, 49, 47, 44, 42, 40]

def sineRows7 : List Nat :=
  [37, 35, 33, 31, 29, 27, 25, 23, 21, 20, 18, 17, 15, 14, 12, 11,
   10, 9, 7, 6, 5, 5, 4, 3, 2, 2, 1, 1, 1, 0, 0, 0]

/-- `CfgRef.SINE_LUT` as a list (R190). -/
def sineValues : List Byte :=
  (sineRows0 ++ sineRows1 ++ sineRows2 ++ sineRows3 ++ sineRows4 ++ sineRows5 ++ sineRows6 ++ sineRows7).map
    (BitVec.ofNat 8)

set_option maxRecDepth 4096 in
/-- `CfgRef.SINE_LUT` (R190). -/
def sineReference : Vector Byte 256 := ⟨sineValues.toArray, by decide⟩

/-- An RGB triple from three numbers, each taken modulo 256. -/
def rgbOf (r g b : Nat) : RGB := ⟨BitVec.ofNat 8 r, BitVec.ofNat 8 g, BitVec.ofNat 8 b⟩

/-- The reference `BUTTON_MODE_TABLE` (00_scope.md section 4). -/
def buttonModesReference : Vector ModeEntry 9 :=
  ⟨#[⟨.static, rgbOf 0 0 0⟩, ⟨.static, rgbOf 255 0 0⟩, ⟨.blink, rgbOf 0 255 0⟩,
     ⟨.pulse, rgbOf 0 0 255⟩, ⟨.rainbow, rgbOf 255 255 255⟩, ⟨.colorShift, rgbOf 255 0 0⟩,
     ⟨.clapToggle, rgbOf 255 255 0⟩, ⟨.clapPulse, rgbOf 0 255 255⟩, ⟨.waveRainbow, rgbOf 255 0 255⟩], rfl⟩

/-- The reference configuration (R2, the table of 00_scope.md section 4). -/
def CfgRef : Cfg where
  nPixels := 4
  resetCodes := 48
  tickNs := 50
  slotTicks := 25
  longTicks := 16
  shortTicks := 8
  tickMs := 25#32
  longPressMs := 3000#32
  cooldownMs := 500#32
  battPeriodMs := 60000#32
  advTimeoutMs := 30000#32
  offDelayMs := 2000#32
  blinkStep := 8#8
  pulseStep := 4#8
  rainbowStep := 2#8
  shiftStep := 1#8
  clapHueStep := 32#8
  cpDecay := 8#8
  cpMin := 16#8
  waveHueStep := 16#8
  waveSat := 255#8
  waveVal := 255#8
  shiftEndB := ⟨128#8, 255#8, 255#8⟩
  sineLut := sineReference
  thClap := 8000
  thWave := 2000
  battRawEmpty := 512#16
  battRawFull := 712#16
  battShutdownRaw := 512#16
  buttonPin := 0#8
  groupReset := 0
  buttonModes := buttonModesReference
  baselineIdle := ⟨.static, rgbOf 0 0 0⟩
  baselineAdv := ⟨.pulse, rgbOf 0 0 255⟩
  baselineLink := ⟨.static, rgbOf 0 255 0⟩
  baselineLowBatt := ⟨.static, rgbOf 255 0 0⟩

/-- The level of the waveform line at a counter tick at which two playbacks overlap: ANY VALUE
(U1 of 93_implementation_defined.md). It has no body, so no proof can see it. Assumption log 4. -/
opaque Config.overlapLevel : Nat → Bool

end Sys2Proof
end

