-- ==== Sys2Proof/WellFormed.lean ====
section
/-! DEFINITION. Well-formedness: the constraints on a configuration record (R3 to R10) and on a command's operands (R106). -/

namespace Sys2Proof

/-- R3, the exact relations (that the three durations approximate doc00's figures is no relation; log 5). -/
abbrev Cfg.WaveOk (c : Cfg) : Prop :=
  0 < c.shortTicks ∧ c.shortTicks < c.longTicks ∧ c.longTicks < c.slotTicks ∧ c.slotTicks ≤ 32767 ∧
    50000 ≤ c.resetCodes * c.slotTicks * c.tickNs

/-- R4. -/
abbrev Cfg.PixelsOk (c : Cfg) : Prop := 1 ≤ c.nPixels

/-- R5 and the `≥ 1` constraints of the four other periods (the table of R2). -/
abbrev Cfg.PeriodsOk (c : Cfg) : Prop :=
  c.longPressMs = 3000#32 ∧ c.tickMs = 25#32 ∧ c.cooldownMs ≠ 0#32 ∧ c.battPeriodMs ≠ 0#32 ∧
    c.advTimeoutMs ≠ 0#32 ∧ c.offDelayMs ≠ 0#32

/-- R6. -/
abbrev Cfg.ThresholdsOk (c : Cfg) : Prop := c.thWave < c.thClap ∧ c.thClap ≤ 32768

/-- R7: entry 6 has animation mode ClapToggle (nine entries and legal modes by type). -/
abbrev Cfg.ButtonModesOk (c : Cfg) : Prop := (c.buttonModes.get 6).mode = .clapToggle

/-- R8 (a): `SINE_LUT[i] = SINE_LUT[256 − i]` for 1 ≤ i ≤ 255, that is, entries 1 to 255 read the same backwards. -/
abbrev Cfg.SineSymmetric (c : Cfg) : Prop := c.sineLut.toList.tail.reverse = c.sineLut.toList.tail

/-- R8 (b): non-decreasing over entries 0 to 128, non-increasing over entries 128 to 255. -/
abbrev Cfg.SineMonotone (c : Cfg) : Prop :=
  (c.sineLut.toList.take 129).IsChain (fun a b => a.toNat ≤ b.toNat) ∧
  (c.sineLut.toList.drop 128).IsChain (fun a b => b.toNat ≤ a.toNat)

/-- R8 (c) and (d): 255 at index 128, 0 at index 0. -/
abbrev Cfg.SinePeak (c : Cfg) : Prop := c.sineLut.get 128 = 255#8 ∧ c.sineLut.get 0 = 0#8

/-- R9 and the 1..255 constraint of `WAVE_SAT` and `WAVE_VAL` (the table of R2). -/
abbrev Cfg.StepsOk (c : Cfg) : Prop :=
  c.blinkStep ≠ 0#8 ∧ c.pulseStep ≠ 0#8 ∧ c.rainbowStep ≠ 0#8 ∧ c.shiftStep ≠ 0#8 ∧ c.clapHueStep ≠ 0#8 ∧
    c.cpDecay ≠ 0#8 ∧ c.waveHueStep ≠ 0#8 ∧ c.cpMin ≠ 0#8 ∧ c.waveSat ≠ 0#8 ∧ c.waveVal ≠ 0#8

/-- R10. -/
abbrev Cfg.BatteryOk (c : Cfg) : Prop := c.battRawEmpty < c.battRawFull

/-- `BASELINE_ADV` is Pulse and blue (the table of R2: "mode = Pulse, colour blue"; blue is read as (0, 0, 255)). -/
abbrev Cfg.BaselineAdvOk (c : Cfg) : Prop := c.baselineAdv = ⟨.pulse, rgbOf 0 0 255⟩

/-- A well-formed configuration: the hypothesis U4 of 93_implementation_defined.md asks for. Nothing checks it at run time. -/
abbrev Cfg.WF (c : Cfg) : Prop :=
  c.WaveOk ∧ c.PixelsOk ∧ c.PeriodsOk ∧ c.ThresholdsOk ∧ c.ButtonModesOk ∧ c.SineSymmetric ∧ c.SineMonotone ∧
    c.SinePeak ∧ c.StepsOk ∧ c.BatteryOk ∧ c.BaselineAdvOk

/-- The operand ranges of the command frames (R106). Every operand of an event is part of the language: where R97
calls a value malformed, the rule of the event drops it. -/
def Instr.wf : Instr → Bool
  | .sensorPwr b => decide (b.toNat ≤ 1)
  | .radioStatus n pct => decide (n.toNat = 1 ∧ pct.toNat ≤ 100)
  | .radioSetGroup group channel => decide (group.toNat ≤ 5 ∧ channel.toNat = group.toNat / 3)
  | .storeGroup group => decide (group.toNat ≤ 5)
  | .nop => true
  | .tb => true
  | .btnDown _ => true
  | .btnUp _ => true
  | .accel _ _ _ => true
  | .linkUp => true
  | .linkDown => true
  | .linkCmd _ _ _ _ => true
  | .bcast _ _ => true
  | .bcastDrop => true
  | .batt _ => true
  | .ioFail _ => true
  | .groupSet _ => true
  | .xLong => true
  | .xCool => true
  | .xBatt => true
  | .xAdv => true
  | .xOff => true
  | .xTick => true
  | .waveStart => true
  | .radioAdvStart => true
  | .radioAdvStop => true
  | .radioDisconnect => true
  | .platformOff => true
  | .ledDriverOff => true
  | .inputIrqOff => true
  | .battSampleReq => true
  | .fatalReport _ => true
  | .modeStatic => true
  | .modeBlink => true
  | .modePulse => true
  | .modeRainbow => true
  | .modeColorShift => true
  | .modeClapToggle => true
  | .modeClapPulse => true
  | .modeWaveRainbow => true
  | .codeZero => true
  | .codeShort => true
  | .codeLong => true

end Sys2Proof
end

