-- ==== Sys2Proof/Decode.lean ====
section
/-! DEFINITION. Decoding and encoding: frames of the event and command ports, Animation Mode values, duty-cycle words
(30_encoding.md), the order of their bits and bytes, and the opcode table's word of a row. -/

namespace Sys2Proof

/-! Byte order (R67, R98): every multi-byte operand is little-endian. -/

/-- The 16-bit operand of two bytes, low byte first (R98). -/
def ofLE16 (lo hi : Byte) : Half := hi ++ lo

/-- The two bytes of a 16-bit operand, low byte first (R98). -/
def toLE16 (w : Half) : Frame := [w.extractLsb' 0 8, w.extractLsb' 8 8]

/-- `P = sum over i of byte(2 + i) × 256^i`, then `P[62:0]`: bit 63 is dropped (R98). -/
def ofLE64 (b0 b1 b2 b3 b4 b5 b6 b7 : Byte) : BitVec 63 :=
  (b7 ++ b6 ++ b5 ++ b4 ++ b3 ++ b2 ++ b1 ++ b0 : BitVec 64).extractLsb' 0 63

/-- Byte `i` of the 8-byte composite that carries the payload `P`; bit 63 is sent as 0 (R101). -/
def payloadByte (P : BitVec 63) (i : Nat) : Byte := (P.setWidth 64).extractLsb' (8 * i) 8

/-- The 8 bytes of a payload in frame order (R67, R101). -/
def toLE64 (P : BitVec 63) : Frame := (List.range 8).map (payloadByte P)

/-! Duty-cycle code words (R107, R108). -/

/-- The word with `POL = 1` and `CMP = ticks`: `0x8000 + ticks` (R108). -/
def dutyCode (ticks : Nat) : Code := BitVec.ofNat 16 (0x8000 + ticks)

/-- `CODE_ZERO` (R108). -/
def codeZeroWord : Code := dutyCode 0

/-- `CODE_SHORT`, `0x8000 + SHORT_TICKS` (R108). -/
def codeShortWord (c : Cfg) : Code := dutyCode c.shortTicks

/-- `CODE_LONG`, `0x8000 + LONG_TICKS` (R108). -/
def codeLongWord (c : Cfg) : Code := dutyCode c.longTicks

/-! Animation Mode codes (R96). -/

/-- The code of an Animation Mode, 0 to 7 (R96). -/
def AnimMode.code : AnimMode → Nat
  | .static => 0
  | .blink => 1
  | .pulse => 2
  | .rainbow => 3
  | .colorShift => 4
  | .clapToggle => 5
  | .clapPulse => 6
  | .waveRainbow => 7

/-- The Animation Mode of an operand's value: values above 7 name no mode (R96, R97). -/
def AnimMode.ofCode (n : Nat) : Option AnimMode :=
  match n with
  | 0 => some .static
  | 1 => some .blink
  | 2 => some .pulse
  | 3 => some .rainbow
  | 4 => some .colorShift
  | 5 => some .clapToggle
  | 6 => some .clapPulse
  | 7 => some .waveRainbow
  | _ => none

/-- The row of the opcode table that is a mode's value. -/
def AnimMode.row : AnimMode → Instr
  | .static => .modeStatic
  | .blink => .modeBlink
  | .pulse => .modePulse
  | .rainbow => .modeRainbow
  | .colorShift => .modeColorShift
  | .clapToggle => .modeClapToggle
  | .clapPulse => .modeClapPulse
  | .waveRainbow => .modeWaveRainbow

/-! Decoding. -/

/-- Why a frame is no instruction of its port. -/
inductive DecodeError where
  | emptyFrame                 -- an empty frame (R94)
  | wrongLength (code : Byte)  -- the length is not that of the code's format (R94)
  | reservedCode (code : Byte) -- the port has no such code (R95)
  | noSuchMode (v : Byte)      -- a value above 7 names no Animation Mode (R96)
  | noSuchDutyCode             -- no element the encoder produces (R109; U6 of 93_implementation_defined.md)
deriving DecidableEq, Repr

/-! The frame formats (R91, R105): each takes the bytes after the code and refuses any other length (R94). -/

/-- Format E0 (and the commands without operand): no operand byte. -/
def formatE0 (code : Byte) (i : Instr) : Frame → Except DecodeError Instr
  | [] => .ok i
  | _ => .error (.wrongLength code)

/-- Format E1 (and the commands with one operand): one `u8`. -/
def formatE1 (code : Byte) (f : Byte → Instr) : Frame → Except DecodeError Instr
  | [a] => .ok (f a)
  | _ => .error (.wrongLength code)

/-- The commands with two operands: two `u8` (R105). -/
def formatC2 (code : Byte) (f : Byte → Byte → Instr) : Frame → Except DecodeError Instr
  | [a, b] => .ok (f a b)
  | _ => .error (.wrongLength code)

/-- Format E2: a `u16`, low byte first. -/
def formatE2 (code : Byte) (f : Half → Instr) : Frame → Except DecodeError Instr
  | [w0, w1] => .ok (f (ofLE16 w0 w1))
  | _ => .error (.wrongLength code)

/-- Format E4: mode, red, green, blue. -/
def formatE4 (code : Byte) (f : Byte → Byte → Byte → Byte → Instr) : Frame → Except DecodeError Instr
  | [mode, red, green, blue] => .ok (f mode red green blue)
  | _ => .error (.wrongLength code)

/-- Format E6: three `s16`, low byte first. -/
def formatE6 (code : Byte) (f : Half → Half → Half → Instr) : Frame → Except DecodeError Instr
  | [x0, x1, y0, y1, z0, z1] => .ok (f (ofLE16 x0 x1) (ofLE16 y0 y1) (ofLE16 z0 z1))
  | _ => .error (.wrongLength code)

/-- Format E9: the channel and the 8-byte composite. -/
def formatE9 (code : Byte) (f : Byte → BitVec 63 → Instr) : Frame → Except DecodeError Instr
  | [ch, b0, b1, b2, b3, b4, b5, b6, b7] => .ok (f ch (ofLE64 b0 b1 b2 b3 b4 b5 b6 b7))
  | _ => .error (.wrongLength code)

/-- The event port's decoder (R90 to R95, R98, R113): the code alone gives the format. -/
def decodeEvent (bs : Frame) : Except DecodeError Instr :=
  match bs with
  | [] => .error .emptyFrame
  | code :: ops =>
    match code.toNat with
    | 0x00 => formatE0 code .nop ops
    | 0x01 => formatE0 code .tb ops
    | 0x02 => formatE1 code .btnDown ops
    | 0x03 => formatE1 code .btnUp ops
    | 0x04 => formatE6 code .accel ops
    | 0x05 => formatE0 code .linkUp ops
    | 0x06 => formatE0 code .linkDown ops
    | 0x07 => formatE4 code .linkCmd ops
    | 0x08 => formatE9 code .bcast ops
    | 0x09 => formatE0 code .bcastDrop ops
    | 0x0A => formatE2 code .batt ops
    | 0x0B => formatE1 code .ioFail ops
    | 0x0C => formatE1 code .groupSet ops
    | _ => .error (.reservedCode code)

/-- The names the timer bank's own expiries have in a trace (R93). -/
def decodeExpiry (bs : Frame) : Except DecodeError Instr :=
  match bs with
  | [] => .error .emptyFrame
  | code :: ops =>
    match code.toNat with
    | 0x10 => formatE0 code .xLong ops
    | 0x11 => formatE0 code .xCool ops
    | 0x12 => formatE0 code .xBatt ops
    | 0x13 => formatE0 code .xAdv ops
    | 0x14 => formatE0 code .xOff ops
    | 0x15 => formatE0 code .xTick ops
    | _ => .error (.reservedCode code)

/-- The command frames (R105, R106). -/
def decodeCommand (bs : Frame) : Except DecodeError Instr :=
  match bs with
  | [] => .error .emptyFrame
  | code :: ops =>
    match code.toNat with
    | 0x80 => formatE0 code .waveStart ops
    | 0x81 => formatE1 code .sensorPwr ops
    | 0x82 => formatE0 code .radioAdvStart ops
    | 0x83 => formatE0 code .radioAdvStop ops
    | 0x84 => formatE0 code .radioDisconnect ops
    | 0x85 => formatC2 code .radioStatus ops
    | 0x86 => formatC2 code .radioSetGroup ops
    | 0x87 => formatE1 code .storeGroup ops
    | 0x88 => formatE0 code .platformOff ops
    | 0x89 => formatE0 code .ledDriverOff ops
    | 0x8A => formatE0 code .inputIrqOff ops
    | 0x8B => formatE0 code .battSampleReq ops
    | 0x8C => formatE1 code .fatalReport ops
    | _ => .error (.reservedCode code)

/-- The value of the `anim_mode` register (R96). DESIGN CHOICE: the model holds the 3 bits in one byte. Log 16. -/
def decodeMode (bs : Frame) : Except DecodeError Instr :=
  match bs with
  | [] => .error .emptyFrame
  | [v] =>
    match AnimMode.ofCode v.toNat with
    | some m => .ok m.row
    | none => .error (.noSuchMode v)
  | v :: _ => .error (.wrongLength v)

/-- A duty-cycle word of the waveform port (R107, R108). DESIGN CHOICE: the spec gives a word no bytes (R67 orders the
bytes of event and command frames only); the model holds it as two, the low byte first. Log 16. -/
def decodeDuty (c : Cfg) (bs : Frame) : Except DecodeError Instr :=
  match bs with
  | [lo, hi] =>
    if ofLE16 lo hi = codeZeroWord then .ok .codeZero
    else if ofLE16 lo hi = codeShortWord c then .ok .codeShort
    else if ofLE16 lo hi = codeLongWord c then .ok .codeLong
    else .error .noSuchDutyCode
  | _ => .error .noSuchDutyCode

/-- The decoder: total on any bytes at any port, rejecting by name. -/
def decode (c : Cfg) (p : Port) (bs : Frame) : Except DecodeError Instr :=
  match p with
  | .event => decodeEvent bs
  | .timerBank => decodeExpiry bs
  | .command => decodeCommand bs
  | .animMode => decodeMode bs
  | .waveform => decodeDuty c bs

/-! Encoding. -/

/-- The port at which an instruction's encoding stands: the opcode table's column `port`. -/
def Instr.port : Instr → Port
  | .nop => .event
  | .tb => .event
  | .btnDown _ => .event
  | .btnUp _ => .event
  | .accel _ _ _ => .event
  | .linkUp => .event
  | .linkDown => .event
  | .linkCmd _ _ _ _ => .event
  | .bcast _ _ => .event
  | .bcastDrop => .event
  | .batt _ => .event
  | .ioFail _ => .event
  | .groupSet _ => .event
  | .xLong => .timerBank
  | .xCool => .timerBank
  | .xBatt => .timerBank
  | .xAdv => .timerBank
  | .xOff => .timerBank
  | .xTick => .timerBank
  | .waveStart => .command
  | .sensorPwr _ => .command
  | .radioAdvStart => .command
  | .radioAdvStop => .command
  | .radioDisconnect => .command
  | .radioStatus _ _ => .command
  | .radioSetGroup _ _ => .command
  | .storeGroup _ => .command
  | .platformOff => .command
  | .ledDriverOff => .command
  | .inputIrqOff => .command
  | .battSampleReq => .command
  | .fatalReport _ => .command
  | .modeStatic => .animMode
  | .modeBlink => .animMode
  | .modePulse => .animMode
  | .modeRainbow => .animMode
  | .modeColorShift => .animMode
  | .modeClapToggle => .animMode
  | .modeClapPulse => .animMode
  | .modeWaveRainbow => .animMode
  | .codeZero => .waveform
  | .codeShort => .waveform
  | .codeLong => .waveform

/-- The bytes of an instruction (R91, R92, R93, R96, R98, R106, R108). The low byte of a duty-cycle word stands first
(DESIGN CHOICE, log 16). -/
def encode (c : Cfg) : Instr → Frame
  | .nop => [0x00#8]
  | .tb => [0x01#8]
  | .btnDown a => [0x02#8, a]
  | .btnUp a => [0x03#8, a]
  | .accel x y z => 0x04#8 :: (toLE16 x ++ toLE16 y ++ toLE16 z)
  | .linkUp => [0x05#8]
  | .linkDown => [0x06#8]
  | .linkCmd mode red green blue => [0x07#8, mode, red, green, blue]
  | .bcast ch payload => 0x08#8 :: ch :: toLE64 payload
  | .bcastDrop => [0x09#8]
  | .batt w => 0x0A#8 :: toLE16 w
  | .ioFail a => [0x0B#8, a]
  | .groupSet a => [0x0C#8, a]
  | .xLong => [0x10#8]
  | .xCool => [0x11#8]
  | .xBatt => [0x12#8]
  | .xAdv => [0x13#8]
  | .xOff => [0x14#8]
  | .xTick => [0x15#8]
  | .waveStart => [0x80#8]
  | .sensorPwr b => [0x81#8, b]
  | .radioAdvStart => [0x82#8]
  | .radioAdvStop => [0x83#8]
  | .radioDisconnect => [0x84#8]
  | .radioStatus n pct => [0x85#8, n, pct]
  | .radioSetGroup group channel => [0x86#8, group, channel]
  | .storeGroup group => [0x87#8, group]
  | .platformOff => [0x88#8]
  | .ledDriverOff => [0x89#8]
  | .inputIrqOff => [0x8A#8]
  | .battSampleReq => [0x8B#8]
  | .fatalReport src => [0x8C#8, src]
  | .modeStatic => [0#8]
  | .modeBlink => [1#8]
  | .modePulse => [2#8]
  | .modeRainbow => [3#8]
  | .modeColorShift => [4#8]
  | .modeClapToggle => [5#8]
  | .modeClapPulse => [6#8]
  | .modeWaveRainbow => [7#8]
  | .codeZero => toLE16 codeZeroWord
  | .codeShort => toLE16 (codeShortWord c)
  | .codeLong => toLE16 (codeLongWord c)

/-! The opcode table's word of a row. -/

/-- The length of the frames of a code (R91 to R93, R106, R113); 1 for a reserved code. -/
def frameLength (code : Byte) : Nat :=
  match code.toNat with
  | 0x02 => 2
  | 0x03 => 2
  | 0x04 => 7
  | 0x07 => 5
  | 0x08 => 10
  | 0x0A => 3
  | 0x0B => 2
  | 0x0C => 2
  | 0x81 => 2
  | 0x85 => 3
  | 0x86 => 3
  | 0x87 => 2
  | 0x8C => 2
  | _ => 1

/-- The port whose frames begin with a code (R92, R93, R106); reserved codes stand at the event port (R95). -/
def portOfCode (code : Byte) : Port :=
  if 0x10 ≤ code.toNat ∧ code.toNat ≤ 0x15 then .timerBank
  else if 0x80 ≤ code.toNat ∧ code.toNat ≤ 0x8C then .command
  else .event

/-- The bytes of a word of `nbits` bits, bits 7:0 first (the frame bit numbering of R90). -/
def wordBytes (nbits w : Nat) : Frame :=
  (List.range ((nbits + 7) / 8)).map (fun i => BitVec.ofNat 8 (w >>> (8 * i)))

/-- Where the table's word of a row stands and the bytes it has there: a 16-bit word that is a duty-cycle code is a word
of the waveform port; any other word is a frame, its bytes above `nbits` zero up to the length its code gives.
The rows MODE_* cannot be told from the events of codes 0 to 7 by their word; the event is answered (log 3). -/
def wordFrame (c : Cfg) (nbits w : Nat) : Port × Frame :=
  let bs := wordBytes nbits w
  match decode c .waveform bs with
  | .ok _ => (.waveform, bs)
  | .error _ =>
    match bs with
    | [] => (.event, [])
    | code :: ops => (portOfCode code, code :: (ops ++ List.replicate (frameLength code - 1 - ops.length) 0#8))

/-- The instruction the decoder reads from the table's word of a row, under `CfgRef`. -/
def decodeTableWord (nbits w : Nat) : Option Instr :=
  match decode CfgRef (wordFrame CfgRef nbits w).1 (wordFrame CfgRef nbits w).2 with
  | .ok i => some i
  | .error _ => none

end Sys2Proof
end

