-- ==== Sys2Proof/Machine/Arith.lean ====
section
/-! DEFINITION. The integer arithmetic laws of R11 that narrow: every rule computes on integers and narrows by one of these. -/

namespace Sys2Proof

/-- `wrap8(x) = x mod 256` for any integer (00_scope.md section 5.1). -/
def wrap8 (x : Int) : Byte := BitVec.ofInt 8 x

/-- `wrap16s(x)`, `x mod 65536` read as two's complement (00_scope.md section 5.1). -/
def wrap16s (x : Int) : Half := BitVec.ofInt 16 x

/-- `tdiv(a, b)`, division truncated toward zero (00_scope.md section 5.1). -/
def tdiv (a b : Int) : Int := Int.tdiv a b

/-- `wrap8(c + STEP)`, the law of the phase and hue counters (R11, R37). -/
def stepCounter (c step : Byte) : Byte := wrap8 (c.toNat + step.toNat)

end Sys2Proof
end

