-- ==== Sys2Proof/Machine/Codec.lean ====
section
/-! DEFINITION. The Group Payload Codec (45_payload_codec.md): descriptor, composite payload, routing. -/

namespace Sys2Proof

/-- The four values `unpack` returns (R251): a mode of 5 bits, not yet checked, and the channels. -/
structure Unpacked where
  mode : BitVec 5
  color : RGB
deriving DecidableEq, Repr

/-- `pack` (R250): the top 5, 6 and 5 bits of red, green and blue under the mode. -/
def pack (mode : BitVec 5) (color : RGB) : BitVec 21 :=
  mode ++ color.r.extractLsb' 3 5 ++ color.g.extractLsb' 2 6 ++ color.b.extractLsb' 3 5

/-- `unpack` (R251): the fields of R100, the low bits of each channel zero. -/
def unpack (d : BitVec 21) : Unpacked :=
  ⟨d.extractLsb' 16 5,
   ⟨d.extractLsb' 11 5 ++ 0#3, d.extractLsb' 5 6 ++ 0#2, d.extractLsb' 0 5 ++ 0#3⟩⟩

/-- `Compose` (R252): descriptor 0 in bits 20:0, 1 in 41:21, 2 in 62:42. -/
def compose (d0 d1 d2 : BitVec 21) : BitVec 63 := d2 ++ d1 ++ d0

/-- `Extract` (R253). -/
def extractDesc (P : BitVec 63) (slot : Nat) : BitVec 21 := P.extractLsb' (21 * slot) 21

/-- The channel that carries a group, `group_id / 3` of the zero-based group (R254). -/
def channelOf (g : Fin 6) : Nat := g.val / 3

/-- The slot of a group within its channel, `group_id % 3` (R254). -/
def slotOf (g : Fin 6) : Nat := g.val % 3

end Sys2Proof
end

