-- ==== Sys2Proof/Machine/Color.lean ====
section
/-! DEFINITION. The Color Engine: the two converters and the table reads (41_color_engine.md), and the two pixel forms (R22, R23). -/

namespace Sys2Proof

/-- `hsv_to_rgb` (R181). -/
def hsvToRgb (c : HSV) : RGB :=
  let h := c.h.toNat
  let s := c.s.toNat
  let v := c.v.toNat
  if s = 0 then ⟨c.v, c.v, c.v⟩
  else
    let region := h / 43
    let rem := (h - 43 * region) * 6
    let p := BitVec.ofNat 8 ((v * (255 - s)) >>> 8)
    let q := BitVec.ofNat 8 ((v * (255 - ((s * rem) >>> 8))) >>> 8)
    let t := BitVec.ofNat 8 ((v * (255 - ((s * (255 - rem)) >>> 8))) >>> 8)
    match region with
    | 0 => ⟨c.v, t, p⟩
    | 1 => ⟨q, c.v, p⟩
    | 2 => ⟨p, c.v, t⟩
    | 3 => ⟨p, q, c.v⟩
    | 4 => ⟨t, p, c.v⟩
    | _ => ⟨c.v, p, q⟩

/-- The hue of `rgb_to_hsv` before the wrap: the offset of the dominant channel and the difference of the two others
(R184). `d` is the spread of the channels. Ties go to red, then green. -/
def hueOf (r g b d : Int) : Int :=
  if max r (max g b) = r then 0 + tdiv (43 * (g - b)) d
  else if max r (max g b) = g then 85 + tdiv (43 * (b - r)) d
  else 171 + tdiv (43 * (r - g)) d

/-- `rgb_to_hsv` (R184). -/
def rgbToHsv (c : RGB) : HSV :=
  let r := c.r.toNat
  let g := c.g.toNat
  let b := c.b.toNat
  let mx := max r (max g b)
  let mn := min r (min g b)
  let v := BitVec.ofNat 8 mx
  if mx = 0 then ⟨0#8, 0#8, 0#8⟩
  else
    let d := mx - mn
    let s := (255 * d) / mx
    if s = 0 then ⟨0#8, 0#8, v⟩
    else ⟨wrap8 (hueOf r g b d), BitVec.ofNat 8 s, v⟩

/-- What `PxWriteRGB` writes to a pixel (R22), and `FromRGB` (R23): the RGB triple as given, the HSV form computed. -/
def Pixel.ofRGB (c : RGB) : Pixel := ⟨c, rgbToHsv c⟩

/-- What `PxWriteHSV` writes to a pixel (R22): the HSV triple as given, the RGB form computed. -/
def Pixel.ofHSV (c : HSV) : Pixel := ⟨hsvToRgb c, c⟩

/-- `MemRead(SINE, i)` (R190, R191): a `u8` index is always in range (R61). -/
def Cfg.sine (c : Cfg) (i : Byte) : Byte := c.sineLut.get i.toFin

/-- `MemRead(BMT, m)` (R60). -/
def Cfg.buttonMode (c : Cfg) (m : Fin 9) : ModeEntry := c.buttonModes.get m

/-- One channel of the ColorShift interpolation, `A + tdiv((B − A) × w, 255)` (R204). -/
def lerp (a b w : Byte) : Byte := wrap8 (a.toNat + tdiv ((b.toNat - a.toNat) * w.toNat) 255)

/-- The ColorShift colour between the endpoints `a` and `b` at weight `w` (R204). -/
def lerpHSV (a b : HSV) (w : Byte) : HSV := ⟨lerp a.h b.h w, lerp a.s b.s w, lerp a.v b.v w⟩

end Sys2Proof
end

