-- ==== Sys2Proof/Machine/Wave.lean ====
section
/-! DEFINITION. The Waveform Encoder's function `Encode` (43_waveform_encoder.md section 2) and the waveform port's line
function (section 4). -/

namespace Sys2Proof

/-- The code of one data bit: long for 1, short for 0 (R108, R221). -/
def dataCode (c : Cfg) (bit : Bool) : Code := if bit then codeLongWord c else codeShortWord c

/-- `EncodeByte` (R221): eight codes, most significant bit first. -/
def encodeByte (c : Cfg) (x : Byte) : List Code :=
  [7, 6, 5, 4, 3, 2, 1, 0].map (fun b => dataCode c (x.getLsbD b))

/-- The 24 codes of a pixel: green, red, blue (R65, R222). -/
def encodePixel (c : Cfg) (p : Pixel) : List Code :=
  encodeByte c p.rgb.g ++ encodeByte c p.rgb.r ++ encodeByte c p.rgb.b

/-- `Encode(px)` (R222): the quiescent codes, then the pixels in index order. -/
def encodePixels (c : Cfg) (px : List Pixel) : List Code :=
  List.replicate c.resetCodes codeZeroWord ++ px.flatMap (encodePixel c)

/-- `L = RESET_CODES + 24 × N_PIXELS` (R4, R40). -/
def Cfg.waveLength (c : Cfg) : Nat := c.resetCodes + 24 * c.nPixels

/-- The index in `WAVE` of bit `b` of colour byte `j` (0 green, 1 red, 2 blue) of pixel `p` (R62). -/
def waveIndex (c : Cfg) (p j b : Nat) : Nat := c.resetCodes + 24 * p + 8 * j + (7 - b)

/-! The line function (R110, R228). -/

/-- `POL`, bit 15 of a code word (R107). -/
def polOf (w : Code) : Bool := w.getLsbD 15

/-- `CMP`, bits 14:0 of a code word (R107). -/
def cmpOf (w : Code) : Nat := w.toNat % 32768

/-- The line at position `j` of the slot of code `w` (R228): high while `POL = 1` and `j < min(CMP, SLOT_TICKS)`. -/
def slotLevel (c : Cfg) (w : Code) (j : Nat) : Bool := polOf w && decide (j < min (cmpOf w) c.slotTicks)

/-- The levels of one bit slot, one for each of its `SLOT_TICKS` counter ticks (R110, R228). -/
def slotLevels (c : Cfg) (w : Code) : List Bool := (List.range c.slotTicks).map (slotLevel c w)

/-- `line(n)` of one frame whose playback starts at tick 0 (R228); low outside the frame. -/
def lineAt (c : Cfg) (frame : List Code) (n : Nat) : Bool :=
  match frame[n / c.slotTicks]? with
  | some w => slotLevel c w (n % c.slotTicks)
  | none => false

/-- Whether counter tick `n` falls inside the playback of `frame` begun at `start` (R228). -/
def playsAt (c : Cfg) (start : Nat) (frame : List Code) (n : Nat) : Bool :=
  decide (start ≤ n ∧ n < start + frame.length * c.slotTicks)

/-- The line of the waveform port at tick `n`, given the start ticks of the playbacks: low outside every playback, the
line function of the frame inside exactly one, and ANY VALUE where two overlap (R110, R311; U1). -/
def portLine (c : Cfg) (playbacks : List (Nat × List Code)) (n : Nat) : Bool :=
  match playbacks.filter (fun p => playsAt c p.1 p.2 n) with
  | [] => false
  | [p] => lineAt c p.2 (n - p.1)
  | _ => Config.overlapLevel n

end Sys2Proof
end

