-- ==== Sys2Proof/Machine/State.lean ====
section
/-! DEFINITION. The state of the block (10_state.md), its stops, and the machine right after reset (R44). -/

namespace Sys2Proof.Machine

/-- One timer (R33): `armed`, and `rem`, the milliseconds left. -/
structure Timer where
  armed : Bool
  rem : BitVec 32
deriving DecidableEq, Repr

/-- The timer bank (R33): one slot of each kind, so two of one kind cannot overlap (R77). -/
structure Timers where
  long : Timer
  cool : Timer
  batt : Timer
  adv : Timer
  off : Timer
  tick : Timer
deriving DecidableEq, Repr

/-- One thing waiting to be taken: the port it stands at and its bytes. Frames from outside stand at the event port
(R42, R90); the other ports name where the table's other rows live (log 2). -/
structure Arrival where
  port : Port
  bytes : Frame
deriving DecidableEq, Repr

/-- The state of the block (R20): the elements of R21 to R42, the configuration record the rules read (log 1), and two
fields of the model's own ports (`inbox` is the queue of R42, log 2; `line` is the waveform port's output, log 3). -/
structure State where
  /-- `Cfg` (R2), the parameter of the step; no rule writes it. -/
  config : Cfg
  /-- The Pixel Frame `px[0..N_PIXELS − 1]` (R21), the index space `PX`. -/
  px : List Pixel
  /-- `cfg`, the configured colour (R23). -/
  cfg : Pixel
  /-- `op_state` (R26). -/
  opState : OpState
  /-- `button_mode`, 0 to 8 (R27). -/
  buttonMode : Fin 9
  /-- `anim_mode` (R28). -/
  animMode : AnimMode
  /-- `sensor_active` (R29). -/
  sensorActive : Bool
  /-- `active_group`, 0 to 5 (R30). -/
  activeGroup : Fin 6
  /-- `last_desc`, 21 bits (R31). -/
  lastDesc : BitVec 21
  /-- `last_desc_valid` (R31). -/
  lastDescValid : Bool
  /-- `batt_pct`, 0 to 100 (R32). -/
  battPct : Fin 101
  /-- The timer bank (R33). -/
  timers : Timers
  /-- `lp_armed` (R34). -/
  lpArmed : Bool
  /-- `motion_flag` (R35). -/
  motionFlag : Bool
  /-- `halted` (R36). -/
  halted : Bool
  /-- `halt_src` (R36). -/
  haltSrc : Byte
  /-- `blink_phase` (R37). -/
  blinkPhase : Byte
  /-- `pulse_phase` (R37). -/
  pulsePhase : Byte
  /-- `rainbow_phase` (R37). -/
  rainbowPhase : Byte
  /-- `shift_phase` (R37). -/
  shiftPhase : Byte
  /-- `clap_hue` (R37). -/
  clapHue : Byte
  /-- `cp_bright` (R37). -/
  cpBright : Byte
  /-- `wave_hue` (R37). -/
  waveHue : Byte
  /-- `shift_a` (R38). -/
  shiftA : HSV
  /-- `accel_prev[0..2]` (R39). -/
  accelPrev : Axes
  /-- `jerk[0..2]` (R39). -/
  jerk : Axes
  /-- `wave_buf[0 .. L − 1]` (R40), the index space `WAVE`. -/
  waveBuf : List Code
  /-- `cmd_out` (R41): the command frames emitted so far, oldest first. -/
  cmdOut : List Frame
  /-- `wave_out` (R41): the frames handed to the waveform port so far, oldest first. -/
  waveOut : List (List Code)
  /-- The events that have arrived and have not been taken (R42, R70), the next one first. -/
  inbox : List Arrival
  /-- The levels of the waveform line for the code words taken one at a time at the waveform port, one per counter tick,
  oldest first (R110, R228). No event rule reads or writes it. -/
  line : List Bool
deriving DecidableEq, Repr

/-- The faults that stop the machine. There is none: the dispatcher is total (R131) and every abnormal condition of
R265 has a successor state (`Halt` is the entry sequence R266, not a stop). The type is empty, which is safe: no step of
this model can be said to have stopped where the block goes on. -/
inductive Fault where
deriving DecidableEq, Repr

/-- Why the machine answers with no state. No event frame is ever refused (R94, R95 ignore what does not decode). -/
inductive Refusal where
  /-- An instruction without a meaning, raised by `exec`; no arm does so. Safe. -/
  | notModelled (mnemonic : String)
  /-- A word at the waveform port that the encoder never produces, raised by `step` (R109; U6 of
  93_implementation_defined.md says refuse). Safe: what the port does with it is not specified. -/
  | noSuchDutyCode (bytes : Frame)
  /-- Bytes at the timer bank, the command port or the `anim_mode` register that are no row of that port, raised by
  `step`. Safe: nothing of the block puts such bytes there. -/
  | noSuchRow (port : Port) (bytes : Frame)
deriving DecidableEq, Repr

/-- A timer that is not armed: `armed = 0`, `rem = 0` (R137). -/
def Timer.idle : Timer := ⟨false, 0#32⟩

/-- The state right after reset under the configuration `c` (the table of R44). -/
def State.resetWith (c : Cfg) : State where
  config := c
  px := List.replicate c.nPixels (Pixel.ofRGB c.baselineIdle.color)
  cfg := Pixel.ofRGB c.baselineIdle.color
  opState := .idle
  buttonMode := 0
  animMode := c.baselineIdle.mode
  sensorActive := false
  activeGroup := c.groupReset
  lastDesc := 0#21
  lastDescValid := false
  battPct := 0
  timers :=
    { long := Timer.idle, cool := Timer.idle, batt := ⟨true, c.battPeriodMs⟩,
      adv := Timer.idle, off := Timer.idle, tick := ⟨true, c.tickMs⟩ }
  lpArmed := false
  motionFlag := false
  halted := false
  haltSrc := 0#8
  blinkPhase := 0#8
  pulsePhase := 0#8
  rainbowPhase := 0#8
  shiftPhase := 0#8
  clapHue := 0#8
  cpBright := c.cpMin
  waveHue := 0#8
  shiftA := (Pixel.ofRGB c.baselineIdle.color).hsv
  accelPrev := ⟨0#16, 0#16, 0#16⟩
  jerk := ⟨0#16, 0#16, 0#16⟩
  waveBuf := encodePixels c (List.replicate c.nPixels (Pixel.ofRGB c.baselineIdle.color))
  cmdOut := []
  waveOut := []
  inbox := []
  line := []

/-- The machine right after reset (R44, R300), under the reference configuration. -/
def State.reset : State := State.resetWith CfgRef

end Sys2Proof.Machine
end

