-- ==== Sys2Proof/Machine/Operands.lean ====
section
/-! DEFINITION. The operand forms of the events: what each operand stands for and which values are legal (R97, R98), and the
codes of the enumerations (R26, R33). -/

namespace Sys2Proof.Machine

/-- The configuration a link command or an unpacked descriptor carries; `none` when its mode is above 7 (R97). -/
def entryOf (mode : Nat) (color : RGB) : Option ModeEntry :=
  (AnimMode.ofCode mode).map (fun m => ⟨m, color⟩)

/-- The configuration of a descriptor: `unpack` and the mode check (R149, R251). -/
def entryOfDesc (d : BitVec 21) : Option ModeEntry := entryOf (unpack d).mode.toNat (unpack d).color

/-- The zero-based group of `GROUP_SET`'s operand, legal at 1 to 6 (R97, R103, R158). -/
def groupOfExternal (a : Byte) : Option (Fin 6) :=
  if h : 1 ≤ a.toNat ∧ a.toNat ≤ 6 then some ⟨a.toNat - 1, by omega⟩ else none

/-- The battery percentage of a raw sample: `min(100, max(0, tdiv((w − EMPTY) × 100, FULL − EMPTY)))` (R156). -/
def battPercent (c : Cfg) (w : Half) : Fin 101 :=
  let p := tdiv (((w.toNat : Int) - c.battRawEmpty.toNat) * 100) ((c.battRawFull.toNat : Int) - c.battRawEmpty.toNat)
  ⟨(min 100 (max 0 p)).toNat, by omega⟩

/-- Jerk on one axis, `wrap16s(cur − prev)` of two `s16` (R241). -/
def jerkOf (cur prev : Half) : Half := wrap16s (cur.toInt - prev.toInt)

/-- `op_state`'s code (R26). -/
def opStateCode : OpState → Nat
  | .shuttingDown => 0
  | .idle => 1
  | .advertising => 2
  | .linkConnected => 3
  | .broadcastReceiving => 4
  | .poweredOff => 5

/-- `NeedsSensor(mode)`: ClapToggle, ClapPulse and WaveRainbow need the sensor (R134). -/
def needsSensor : AnimMode → Bool
  | .static => false
  | .blink => false
  | .pulse => false
  | .rainbow => false
  | .colorShift => false
  | .clapToggle => true
  | .clapPulse => true
  | .waveRainbow => true

/-- The timers in index order, the order of both phases of `TB` (R33, R138). -/
def timerOrder : List TimerId := [.long, .cool, .batt, .adv, .off, .tick]

/-- `period(t)` (R33). -/
def period (c : Cfg) : TimerId → BitVec 32
  | .long => c.longPressMs
  | .cool => c.cooldownMs
  | .batt => c.battPeriodMs
  | .adv => c.advTimeoutMs
  | .off => c.offDelayMs
  | .tick => c.tickMs

/-- Which timers repeat (R33): the battery check and the animation tick. -/
def repeats : TimerId → Bool
  | .long => false
  | .cool => false
  | .batt => true
  | .adv => false
  | .off => false
  | .tick => true

end Sys2Proof.Machine
end

