-- ==== Sys2Proof/Machine/Flags.lean ====
section
/-! DEFINITION. The predicates that gate the events and the condition that sets the Motion Flag. The block has no arithmetic
condition codes (R36). -/

namespace Sys2Proof.Machine

/-- `Dead` (R132): halted or powered off; every event is ignored. -/
def State.dead (s : State) : Bool := s.halted || decide (s.opState = .poweredOff)

/-- `Deaf` (R132): dead or shutting down; every event but `TB` and `IO_FAIL` is ignored. -/
def State.deaf (s : State) : Bool := s.dead || decide (s.opState = .shuttingDown)

/-- The largest jerk magnitude, `max(abs(jerk[0]), abs(jerk[1]), abs(jerk[2]))`, 0 to 32768 (R242). -/
def jerkMagnitude (j : Axes) : Nat := max j.x.toInt.natAbs (max j.y.toInt.natAbs j.z.toInt.natAbs)

/-- A crossing of the high threshold, strict (R242). -/
def crossesClap (c : Cfg) (j : Axes) : Bool := decide (c.thClap < jerkMagnitude j)

/-- A crossing of the low threshold, strict (R242). -/
def crossesWave (c : Cfg) (j : Axes) : Bool := decide (c.thWave < jerkMagnitude j)

end Sys2Proof.Machine
end

