-- ==== Sys2Proof/Machine/Ops.lean ====
section
/-! DEFINITION. The shared operations: the timer bank, emitting a command, writing pixels, rendering, applying a
configuration, the state transition, and the fatal entry sequence. -/

namespace Sys2Proof.Machine

/-! The timer bank. -/

/-- Reads a timer. -/
def Timers.get (ts : Timers) : TimerId → Timer
  | .long => ts.long
  | .cool => ts.cool
  | .batt => ts.batt
  | .adv => ts.adv
  | .off => ts.off
  | .tick => ts.tick

/-- Writes a timer. -/
def Timers.set (ts : Timers) (t : TimerId) (x : Timer) : Timers :=
  match t with
  | .long => { ts with long := x }
  | .cool => { ts with cool := x }
  | .batt => { ts with batt := x }
  | .adv => { ts with adv := x }
  | .off => { ts with off := x }
  | .tick => { ts with tick := x }

/-- `Start(t)` (R136): arms `t` with its full period, replacing whatever it held. -/
def State.start (s : State) (t : TimerId) : State :=
  { s with timers := s.timers.set t ⟨true, period s.config t⟩ }

/-- `Cancel(t)` (R137). -/
def State.cancel (s : State) (t : TimerId) : State := { s with timers := s.timers.set t Timer.idle }

/-- `Cancel(t)` for every timer `t` (R153, R266). -/
def State.cancelAll (s : State) : State :=
  { s with timers := ⟨Timer.idle, Timer.idle, Timer.idle, Timer.idle, Timer.idle, Timer.idle⟩ }

/-- `rem` after one millisecond of an armed timer: it never goes below 0 (R11, R138). -/
def Timer.remAfter (x : Timer) : BitVec 32 := if x.rem = 0#32 then 0#32 else x.rem - 1#32

/-- `expired[t]` of phase 1 of `TB` (R138). -/
def Timer.expires (x : Timer) : Bool := x.armed && decide (x.remAfter = 0#32)

/-- Phase 1 of `TB` for one timer (R138): a repeating timer that reaches 0 reloads, a single-shot one disarms. -/
def Timer.count (x : Timer) (rep : Bool) (full : BitVec 32) : Timer :=
  if x.armed then
    if x.expires then
      if rep then ⟨true, full⟩ else ⟨false, 0#32⟩
    else ⟨true, x.remAfter⟩
  else x

/-- Phase 1 of `TB` (R138). -/
def State.countTimers (s : State) : State :=
  { s with
    timers :=
      { long := s.timers.long.count (repeats .long) (period s.config .long)
        cool := s.timers.cool.count (repeats .cool) (period s.config .cool)
        batt := s.timers.batt.count (repeats .batt) (period s.config .batt)
        adv := s.timers.adv.count (repeats .adv) (period s.config .adv)
        off := s.timers.off.count (repeats .off) (period s.config .off)
        tick := s.timers.tick.count (repeats .tick) (period s.config .tick) } }

/-! The three ports' outputs. -/

/-- `emit CMD(args)` (00_scope.md section 5.2, R105): appends one command frame to `cmd_out`. -/
def State.emit (s : State) (cmd : Instr) : State := { s with cmdOut := s.cmdOut ++ [encode s.config cmd] }

/-- Writes every pixel `i` of `0 .. N_PIXELS − 1` with the six fields `f i` (R22: all six at once). -/
def State.paint (s : State) (f : Nat → Pixel) : State := { s with px := (List.range s.config.nPixels).map f }

/-- The first two steps of `Render` (R224): the whole buffer is rewritten, then a copy is handed over. -/
def State.handOver (s : State) : State :=
  { s with waveBuf := encodePixels s.config s.px, waveOut := s.waveOut ++ [encodePixels s.config s.px] }

/-- `Render()` (R224). -/
def State.render (s : State) : State := s.handOver.emit .waveStart

/-- `AllHSV(h, s, v)` (R196). -/
def State.allHSV (s : State) (c : HSV) : State := s.paint (fun _ => Pixel.ofHSV c)

/-! Sensor power and configurations. -/

/-- The operand of `SENSOR_PWR` (R106): 0 standby, 1 active. -/
def sensorOperand (b : Bool) : Byte := if b then 1#8 else 0#8

/-- `SetSensor(b)` (R133): the command is emitted on every call. -/
def State.setSensor (s : State) (b : Bool) : State :=
  { s with sensorActive := b }.emit (.sensorPwr (sensorOperand b))

/-- The registers `SetAnim` writes before the pixels (R197, R23, R38). -/
def State.setConfigured (s : State) (e : ModeEntry) : State :=
  { s with
    animMode := e.mode
    cfg := Pixel.ofRGB e.color
    shiftA := if e.mode = .colorShift then (Pixel.ofRGB e.color).hsv else s.shiftA
    lastDescValid := false }

/-- `SetAnim(mode, r, g, b)` (R197): no counter and no Motion Flag is written. -/
def State.setAnim (s : State) (e : ModeEntry) : State :=
  ((s.setConfigured e).paint (fun _ => Pixel.ofRGB e.color)).render

/-- `ApplyConfig(mode, r, g, b)` (R140). -/
def State.applyConfig (s : State) (e : ModeEntry) : State := (s.setSensor (needsSensor e.mode)).setAnim e

/-! The transition (R135). -/

/-- The exit side effect (R135): leaving Advertising stops it. -/
def State.exitEffect (s : State) : State :=
  if s.opState = .advertising then (s.emit .radioAdvStop).cancel .adv else s

/-- What entry to ShuttingDown does before the low-battery configuration (R135). -/
def State.quiesce (s : State) : State :=
  { ((s.cancel .long).cancel .cool).cancel .batt with lpArmed := false }

/-- The entry side effect (R135). `Transition` is never called with PoweredOff. -/
def State.entryEffect (s : State) (new : OpState) : State :=
  match new with
  | .idle => s.applyConfig s.config.baselineIdle
  | .advertising => (((s.setSensor false).emit .radioAdvStart).setAnim s.config.baselineAdv).start .adv
  | .linkConnected => s.applyConfig s.config.baselineLink
  | .broadcastReceiving => s
  | .shuttingDown => (s.quiesce.applyConfig s.config.baselineLowBatt).start .off
  | .poweredOff => s

/-- `Transition(new)` (R135): exit effect, entry effect, then the state variable changes. -/
def State.transition (s : State) (new : OpState) : State :=
  { s.exitEffect.entryEffect new with opState := new }

/-! Taking the one fatal exception (R266). There is no return from it (R276). -/

/-- The latch `Halt` sets and the registers it clears before it renders (R266). -/
def State.latchHalt (s : State) (src : Byte) : State :=
  { s.cancelAll with halted := true, haltSrc := src, lpArmed := false }

/-- The colour of a dark pixel. -/
def black : RGB := ⟨0#8, 0#8, 0#8⟩

/-- `Halt(src)` (R266): the latch, one last frame with the LEDs off, the report. -/
def State.halt (s : State) (src : Byte) : State :=
  ((s.latchHalt src).paint (fun _ => Pixel.ofRGB black)).render.emit (.fatalReport src)

end Sys2Proof.Machine
end

