-- ==== Sys2Proof/Machine/Command.lean ====
section
/-! DEFINITION. The meanings of the command rows (R105, R106): what the block does when it issues that command. WAVE_START is
issued by `Render` and SENSOR_PWR by `SetSensor` only, so their rows run those operations whole; the row of any other
command is its `emit` (log 3). -/

namespace Sys2Proof.Machine

/-- WAVE_START (R224): `Render`. -/
def execWaveStart (s : State) : Host.Outcome State Fault Refusal := .next s.render

/-- SENSOR_PWR (R133): `SetSensor(b)`; the frame carries the operand as given, 1 is active (R29, R106). -/
def execSensorPwr (b : Byte) (s : State) : Host.Outcome State Fault Refusal :=
  .next ({ s with sensorActive := decide (b = 1#8) }.emit (.sensorPwr b))

/-- RADIO_ADV_START (R106). -/
def execRadioAdvStart (s : State) : Host.Outcome State Fault Refusal := .next (s.emit .radioAdvStart)

/-- RADIO_ADV_STOP (R106). -/
def execRadioAdvStop (s : State) : Host.Outcome State Fault Refusal := .next (s.emit .radioAdvStop)

/-- RADIO_DISCONNECT (R106): a defined code that no rule emits. -/
def execRadioDisconnect (s : State) : Host.Outcome State Fault Refusal := .next (s.emit .radioDisconnect)

/-- RADIO_STATUS (R106, R156). -/
def execRadioStatus (n pct : Byte) (s : State) : Host.Outcome State Fault Refusal :=
  .next (s.emit (.radioStatus n pct))

/-- RADIO_SET_GROUP (R106, R158). -/
def execRadioSetGroup (group channel : Byte) (s : State) : Host.Outcome State Fault Refusal :=
  .next (s.emit (.radioSetGroup group channel))

/-- STORE_GROUP (R106, R158). -/
def execStoreGroup (group : Byte) (s : State) : Host.Outcome State Fault Refusal := .next (s.emit (.storeGroup group))

/-- PLATFORM_OFF (R106, R153). -/
def execPlatformOff (s : State) : Host.Outcome State Fault Refusal := .next (s.emit .platformOff)

/-- LED_DRIVER_OFF (R106, R153). -/
def execLedDriverOff (s : State) : Host.Outcome State Fault Refusal := .next (s.emit .ledDriverOff)

/-- INPUT_IRQ_OFF (R106, R153). -/
def execInputIrqOff (s : State) : Host.Outcome State Fault Refusal := .next (s.emit .inputIrqOff)

/-- BATT_SAMPLE_REQ (R106, R151). -/
def execBattSampleReq (s : State) : Host.Outcome State Fault Refusal := .next (s.emit .battSampleReq)

/-- FATAL_REPORT (R106, R266). -/
def execFatalReport (src : Byte) (s : State) : Host.Outcome State Fault Refusal := .next (s.emit (.fatalReport src))

end Sys2Proof.Machine
end

