-- ==== Sys2Proof/Machine/Link.lean ====
section
/-! DEFINITION. The connection-link events LINK_UP (R145), LINK_DOWN (R146), LINK_CMD (R147) and the broadcast-link events
BCAST (R149), BCAST_DROP (R148). -/

namespace Sys2Proof.Machine

/-- LINK_UP (R145). -/
def execLinkUp (s : State) : Host.Outcome State Fault Refusal :=
  .next (if s.deaf then s
    else if s.opState = .advertising then s.transition .linkConnected
    else s)

/-- LINK_DOWN (R146). -/
def execLinkDown (s : State) : Host.Outcome State Fault Refusal :=
  .next (if s.deaf then s
    else if s.opState = .linkConnected then s.transition .idle
    else s)

/-- LINK_CMD (R147): a mode above 7 is malformed and ignored. -/
def execLinkCmd (mode red green blue : Byte) (s : State) : Host.Outcome State Fault Refusal :=
  .next (if s.deaf then s
    else if s.opState ≠ .linkConnected then s
    else match entryOf mode.toNat ⟨red, green, blue⟩ with
      | some e => s.applyConfig e
      | none => s)

/-- BCAST_DROP (R148). -/
def execBcastDrop (s : State) : Host.Outcome State Fault Refusal :=
  .next (if s.deaf then s
    else if s.opState = .broadcastReceiving then s.transition .idle
    else s)

/-- The tail of BCAST (R149): the transition if there is one, the configuration, then the memory for suppression
(`last_desc_valid` is set after `ApplyConfig`, which clears it). -/
def applyBroadcast (s : State) (d : BitVec 21) (e : ModeEntry) : State :=
  let s1 := if s.opState ≠ .broadcastReceiving then s.transition .broadcastReceiving else s
  { s1.applyConfig e with lastDesc := d, lastDescValid := true }

/-- BCAST (R149): routing, extraction, the mode check before the transition, equality suppression. -/
def execBcast (ch : Byte) (payload : BitVec 63) (s : State) : Host.Outcome State Fault Refusal :=
  .next (if s.deaf then s
    else if ch.toNat ≠ channelOf s.activeGroup then s
    else
      let d := extractDesc payload (slotOf s.activeGroup)
      match entryOfDesc d with
      | none => s
      | some e => if s.lastDescValid = true ∧ d = s.lastDesc then s else applyBroadcast s d e)

end Sys2Proof.Machine
end

