-- ==== Sys2Proof/Machine/Motion.lean ====
section
/-! DEFINITION. The Movement Event Filter and ACCEL (44_movement_filter.md, R155). -/

namespace Sys2Proof.Machine

/-- `UpdateJerk` (R241): in every Animation Mode. -/
def updateJerk (s : State) (x y z : Half) : State :=
  { s with
    jerk := ⟨jerkOf x s.accelPrev.x, jerkOf y s.accelPrev.y, jerkOf z s.accelPrev.z⟩
    accelPrev := ⟨x, y, z⟩ }

/-- The clap tier (R242): high threshold, gated by the cooldown, which an accepted crossing starts. -/
def detectClap (s : State) : State :=
  if crossesClap s.config s.jerk && !s.timers.cool.armed then { s.start .cool with motionFlag := true } else s

/-- The wave tier (R242): low threshold, no cooldown. -/
def detectWave (s : State) : State :=
  if crossesWave s.config s.jerk then { s with motionFlag := true } else s

/-- `Detect` (R242): the tier is selected by the Animation Mode. -/
def detect (s : State) : State :=
  match s.animMode with
  | .clapToggle => detectClap s
  | .clapPulse => detectClap s
  | .waveRainbow => detectWave s
  | .static => s
  | .blink => s
  | .pulse => s
  | .rainbow => s
  | .colorShift => s

/-- ACCEL (R155): the sample is taken in every state that is not deaf, whatever `sensor_active` says. -/
def execAccel (x y z : Half) (s : State) : Host.Outcome State Fault Refusal :=
  .next (if s.deaf then s else detect (updateJerk s x y z))

end Sys2Proof.Machine
end

