-- ==== Sys2Proof/Machine/System.lean ====
section
/-! DEFINITION. The system events: NOP (R159), BATT (R156), IO_FAIL (R157), GROUP_SET (R158). -/

namespace Sys2Proof.Machine

/-- NOP (R159): no state change, no output, in every state. -/
def execNop (s : State) : Host.Outcome State Fault Refusal := .next s

/-- What a battery sample does when it is taken (R156): the percentage, then shutdown below the threshold (strict, on
the raw value), else a status while LinkConnected. -/
def sampleBattery (s : State) (w : Half) : State :=
  let s1 := { s with battPct := battPercent s.config w }
  if w.toNat < s.config.battShutdownRaw.toNat then s1.transition .shuttingDown
  else if s.opState = .linkConnected then s1.emit (.radioStatus 1#8 (BitVec.ofNat 8 s1.battPct.val))
  else s1

/-- BATT (R156). -/
def execBatt (w : Half) (s : State) : Host.Outcome State Fault Refusal :=
  .next (if s.deaf then s else sampleBattery s w)

/-- IO_FAIL (R157): takes the fatal exception in every state that is not dead. -/
def execIoFail (a : Byte) (s : State) : Host.Outcome State Fault Refusal :=
  .next (if s.dead then s else s.halt a)

/-- A legal group selection (R158). -/
def selectGroup (s : State) (g : Fin 6) : State :=
  ({ s with activeGroup := g, lastDescValid := false }.emit (.storeGroup (BitVec.ofNat 8 g.val))).emit
    (.radioSetGroup (BitVec.ofNat 8 g.val) (BitVec.ofNat 8 (channelOf g)))

/-- GROUP_SET (R158): a group outside 1 to 6 is malformed and ignored. -/
def execGroupSet (a : Byte) (s : State) : Host.Outcome State Fault Refusal :=
  .next (if s.deaf then s
    else match groupOfExternal a with
      | some g => selectGroup s g
      | none => s)

end Sys2Proof.Machine
end

