-- ==== Sys2Proof/Machine/Animation.lean ====
section
/-! DEFINITION. The Animation Driver: the tick rules of the eight Animation Modes (42_animation_driver.md), each the meaning
of the row MODE_* whose value selects it. -/

namespace Sys2Proof.Machine

/-- `TickStatic` (R200). -/
def tickStatic (s : State) : State := s.render

/-- `TickBlink` (R201): the phase is stepped before it is used; on for phases 0 to 127. -/
def tickBlink (s : State) : State :=
  let phase := stepCounter s.blinkPhase s.config.blinkStep
  let v := if phase.toNat < 128 then 255#8 else 0#8
  ({ s with blinkPhase := phase }.allHSV ⟨s.cfg.hsv.h, s.cfg.hsv.s, v⟩).render

/-- `TickPulse` (R202). -/
def tickPulse (s : State) : State :=
  let phase := stepCounter s.pulsePhase s.config.pulseStep
  ({ s with pulsePhase := phase }.allHSV ⟨s.cfg.hsv.h, s.cfg.hsv.s, s.config.sine phase⟩).render

/-- The hue of pixel `i` in Rainbow, `wrap8(rainbow_phase + (i × 256) / N_PIXELS)` (R203). -/
def rainbowHue (c : Cfg) (phase : Byte) (i : Nat) : Byte := wrap8 (phase.toNat + (i * 256) / c.nPixels)

/-- `TickRainbow` (R203). -/
def tickRainbow (s : State) : State :=
  let phase := stepCounter s.rainbowPhase s.config.rainbowStep
  ({ s with rainbowPhase := phase }.paint
    (fun i => Pixel.ofHSV ⟨rainbowHue s.config phase i, 255#8, 255#8⟩)).render

/-- `TickColorShift` (R204). -/
def tickColorShift (s : State) : State :=
  let phase := stepCounter s.shiftPhase s.config.shiftStep
  ({ s with shiftPhase := phase }.allHSV (lerpHSV s.shiftA s.config.shiftEndB (s.config.sine phase))).render

/-- `TickClapToggle` (R205): the frame is rendered every tick, changed or not. -/
def tickClapToggle (s : State) : State :=
  if s.motionFlag then
    let hue := stepCounter s.clapHue s.config.clapHueStep
    ({ s with motionFlag := false, clapHue := hue }.allHSV ⟨hue, 255#8, 255#8⟩).render
  else s.render

/-- The brightness of ClapPulse after a tick without motion, `max(cp_bright − CP_DECAY, CP_MIN)` on integers (R206). -/
def clapDecay (c : Cfg) (bright : Byte) : Byte :=
  wrap8 (max ((bright.toNat : Int) - c.cpDecay.toNat) c.cpMin.toNat)

/-- `TickClapPulse` (R206). -/
def tickClapPulse (s : State) : State :=
  let bright := if s.motionFlag then 255#8 else clapDecay s.config s.cpBright
  ({ s with motionFlag := false, cpBright := bright }.allHSV ⟨s.cfg.hsv.h, s.cfg.hsv.s, bright⟩).render

/-- `TickWaveRainbow` (R207): without motion nothing happens, no frame and no command. -/
def tickWaveRainbow (s : State) : State :=
  if s.motionFlag then
    let hue := stepCounter s.waveHue s.config.waveHueStep
    ({ s with motionFlag := false, waveHue := hue }.allHSV ⟨hue, s.config.waveSat, s.config.waveVal⟩).render
  else s

/-- `AnimationTick` (R199): exactly one tick rule, chosen by `anim_mode`. -/
def animationTick (s : State) : State :=
  match s.animMode with
  | .static => tickStatic s
  | .blink => tickBlink s
  | .pulse => tickPulse s
  | .rainbow => tickRainbow s
  | .colorShift => tickColorShift s
  | .clapToggle => tickClapToggle s
  | .clapPulse => tickClapPulse s
  | .waveRainbow => tickWaveRainbow s

/-! The meanings of the rows MODE_*: the tick rule the row names (R96, log 3). -/

/-- MODE_Static (R200). -/
def execModeStatic (s : State) : Host.Outcome State Fault Refusal := .next (tickStatic s)

/-- MODE_Blink (R201). -/
def execModeBlink (s : State) : Host.Outcome State Fault Refusal := .next (tickBlink s)

/-- MODE_Pulse (R202). -/
def execModePulse (s : State) : Host.Outcome State Fault Refusal := .next (tickPulse s)

/-- MODE_Rainbow (R203). -/
def execModeRainbow (s : State) : Host.Outcome State Fault Refusal := .next (tickRainbow s)

/-- MODE_ColorShift (R204). -/
def execModeColorShift (s : State) : Host.Outcome State Fault Refusal := .next (tickColorShift s)

/-- MODE_ClapToggle (R205). -/
def execModeClapToggle (s : State) : Host.Outcome State Fault Refusal := .next (tickClapToggle s)

/-- MODE_ClapPulse (R206). -/
def execModeClapPulse (s : State) : Host.Outcome State Fault Refusal := .next (tickClapPulse s)

/-- MODE_WaveRainbow (R207). -/
def execModeWaveRainbow (s : State) : Host.Outcome State Fault Refusal := .next (tickWaveRainbow s)

end Sys2Proof.Machine
end

