-- ==== Sys2Proof/Machine/Button.lean ====
section
/-! DEFINITION. The button events: BTN_DOWN (R141), BTN_UP (R142), and the actions of a short and a long press (R143, R144). -/

namespace Sys2Proof.Machine

/-- `(button_mode + 1) mod 9` (R143). -/
def nextButtonMode (m : Fin 9) : Fin 9 := ⟨(m.val + 1) % 9, by omega⟩

/-- `ShortPress()` (R143). The Idle entry effect is not re-run (C1 of 90_conflicts.md). -/
def shortPress (s : State) : State :=
  match s.opState with
  | .idle =>
    let m := nextButtonMode s.buttonMode
    { s with buttonMode := m }.applyConfig (s.config.buttonMode m)
  | .advertising => s.transition .idle
  | .linkConnected => s
  | .broadcastReceiving => s
  | .shuttingDown => s
  | .poweredOff => s

/-- BTN_DOWN (R141). -/
def execBtnDown (a : Byte) (s : State) : Host.Outcome State Fault Refusal :=
  .next (if s.deaf then s
    else if a ≠ s.config.buttonPin then s
    else { s.start .long with lpArmed := true })

/-- BTN_UP (R142): a release that finds `lp_armed = 0` is swallowed. -/
def execBtnUp (a : Byte) (s : State) : Host.Outcome State Fault Refusal :=
  .next (if s.deaf then s
    else if a ≠ s.config.buttonPin then s
    else if s.lpArmed = false then s
    else shortPress { s.cancel .long with lpArmed := false })

/-- The action of `X_LONG` (R144). -/
def longPress (s : State) : State :=
  if s.deaf then s
  else
    let s1 := { s with lpArmed := false }
    match s.opState with
    | .idle => s1.transition .advertising
    | .advertising => s1.transition .idle
    | .linkConnected => s1.transition .idle
    | .broadcastReceiving => s1
    | .shuttingDown => s1
    | .poweredOff => s1

end Sys2Proof.Machine
end

