-- ==== Sys2Proof/Machine/Timebase.lean ====
section
/-! DEFINITION. The timer expiries (R144, R150 to R154) and TB (R138). -/

namespace Sys2Proof.Machine

/-- The action of `X_BATT` (R151). -/
def requestSample (s : State) : State := if s.deaf then s else s.emit .battSampleReq

/-- The action of `X_ADV` (R152). -/
def advertisingTimeout (s : State) : State :=
  if s.opState = .advertising ∧ s.deaf = false then s.transition .idle else s

/-- The action of `X_OFF` (R153): the three commands, every timer cancelled, PoweredOff. -/
def powerOff (s : State) : State :=
  if s.opState ≠ .shuttingDown ∨ s.halted = true then s
  else { (((s.emit .ledDriverOff).emit .inputIrqOff).emit .platformOff).cancelAll with opState := .poweredOff }

/-- The action of `X_TICK` (R154): in every state but PoweredOff and not when halted. -/
def animationExpiry (s : State) : State := if s.dead then s else animationTick s

/-- The expiry rule of a timer (R138: R144, R150, R151, R152, R153, R154). -/
def expire (t : TimerId) (s : State) : State :=
  match t with
  | .long => longPress s
  | .cool => s
  | .batt => requestSample s
  | .adv => advertisingTimeout s
  | .off => powerOff s
  | .tick => animationExpiry s

/-- One turn of phase 2 of `TB` (R138): `Dead` is tested again before each expiry. `before` is the timer bank that
phase 1 counted. -/
def fireIfExpired (before : Timers) (s : State) (t : TimerId) : State :=
  if (before.get t).expires && !s.dead then expire t s else s

/-- TB (R138): phase 1 counts every timer, phase 2 runs the expired timers' rules in index order. -/
def execTb (s : State) : Host.Outcome State Fault Refusal :=
  .next (if s.dead then s else timerOrder.foldl (fireIfExpired s.timers) s.countTimers)

/-! The meanings of the internal expiries as rows of the table. -/

/-- X_LONG (R144). -/
def execXLong (s : State) : Host.Outcome State Fault Refusal := .next (expire .long s)

/-- X_COOL (R150): it does nothing. -/
def execXCool (s : State) : Host.Outcome State Fault Refusal := .next (expire .cool s)

/-- X_BATT (R151). -/
def execXBatt (s : State) : Host.Outcome State Fault Refusal := .next (expire .batt s)

/-- X_ADV (R152). -/
def execXAdv (s : State) : Host.Outcome State Fault Refusal := .next (expire .adv s)

/-- X_OFF (R153). -/
def execXOff (s : State) : Host.Outcome State Fault Refusal := .next (expire .off s)

/-- X_TICK (R154). -/
def execXTick (s : State) : Host.Outcome State Fault Refusal := .next (expire .tick s)

end Sys2Proof.Machine
end

