-- ==== Sys2Proof/Machine/WavePort.lean ====
section
/-! DEFINITION. The meanings of the duty-cycle code rows (R108): the waveform port plays one bit slot (R110, R228). -/

namespace Sys2Proof.Machine

/-- The port plays one bit slot: `SLOT_TICKS` levels of the line (R110, R228). -/
def State.playSlot (s : State) (w : Code) : State := { s with line := s.line ++ slotLevels s.config w }

/-- CODE_ZERO (R108): low for the whole slot. -/
def execCodeZero (s : State) : Host.Outcome State Fault Refusal := .next (s.playSlot codeZeroWord)

/-- CODE_SHORT (R108): high for `SHORT_TICKS`. -/
def execCodeShort (s : State) : Host.Outcome State Fault Refusal := .next (s.playSlot (codeShortWord s.config))

/-- CODE_LONG (R108): high for `LONG_TICKS`. -/
def execCodeLong (s : State) : Host.Outcome State Fault Refusal := .next (s.playSlot (codeLongWord s.config))

end Sys2Proof.Machine
end

