-- ==== Sys2Proof/Machine/Dispatch.lean ====
section
/-! DEFINITION. exec: one arm per row of the opcode table (R130). -/

namespace Sys2Proof.Machine

def exec (i : Instr) (s : State) : Host.Outcome State Fault Refusal :=
  match i with
  | .nop => Sys2Proof.Machine.execNop s
  | .tb => Sys2Proof.Machine.execTb s
  | .btnDown a => Sys2Proof.Machine.execBtnDown a s
  | .btnUp a => Sys2Proof.Machine.execBtnUp a s
  | .accel x y z => Sys2Proof.Machine.execAccel x y z s
  | .linkUp => Sys2Proof.Machine.execLinkUp s
  | .linkDown => Sys2Proof.Machine.execLinkDown s
  | .linkCmd mode red green blue => Sys2Proof.Machine.execLinkCmd mode red green blue s
  | .bcast ch payload => Sys2Proof.Machine.execBcast ch payload s
  | .bcastDrop => Sys2Proof.Machine.execBcastDrop s
  | .batt w => Sys2Proof.Machine.execBatt w s
  | .ioFail a => Sys2Proof.Machine.execIoFail a s
  | .groupSet a => Sys2Proof.Machine.execGroupSet a s
  | .xLong => Sys2Proof.Machine.execXLong s
  | .xCool => Sys2Proof.Machine.execXCool s
  | .xBatt => Sys2Proof.Machine.execXBatt s
  | .xAdv => Sys2Proof.Machine.execXAdv s
  | .xOff => Sys2Proof.Machine.execXOff s
  | .xTick => Sys2Proof.Machine.execXTick s
  | .waveStart => Sys2Proof.Machine.execWaveStart s
  | .sensorPwr b => Sys2Proof.Machine.execSensorPwr b s
  | .radioAdvStart => Sys2Proof.Machine.execRadioAdvStart s
  | .radioAdvStop => Sys2Proof.Machine.execRadioAdvStop s
  | .radioDisconnect => Sys2Proof.Machine.execRadioDisconnect s
  | .radioStatus n pct => Sys2Proof.Machine.execRadioStatus n pct s
  | .radioSetGroup group channel => Sys2Proof.Machine.execRadioSetGroup group channel s
  | .storeGroup group => Sys2Proof.Machine.execStoreGroup group s
  | .platformOff => Sys2Proof.Machine.execPlatformOff s
  | .ledDriverOff => Sys2Proof.Machine.execLedDriverOff s
  | .inputIrqOff => Sys2Proof.Machine.execInputIrqOff s
  | .battSampleReq => Sys2Proof.Machine.execBattSampleReq s
  | .fatalReport src => Sys2Proof.Machine.execFatalReport src s
  | .modeStatic => Sys2Proof.Machine.execModeStatic s
  | .modeBlink => Sys2Proof.Machine.execModeBlink s
  | .modePulse => Sys2Proof.Machine.execModePulse s
  | .modeRainbow => Sys2Proof.Machine.execModeRainbow s
  | .modeColorShift => Sys2Proof.Machine.execModeColorShift s
  | .modeClapToggle => Sys2Proof.Machine.execModeClapToggle s
  | .modeClapPulse => Sys2Proof.Machine.execModeClapPulse s
  | .modeWaveRainbow => Sys2Proof.Machine.execModeWaveRainbow s
  | .codeZero => Sys2Proof.Machine.execCodeZero s
  | .codeShort => Sys2Proof.Machine.execCodeShort s
  | .codeLong => Sys2Proof.Machine.execCodeLong s

end Sys2Proof.Machine
end

