-- ==== Sys2Proof/Machine/Fetch.lean ====
section
/-! DEFINITION. Taking the next frame (R42, R70, R130) and placing one. -/

namespace Sys2Proof.Machine

/-- The next thing to take and the state without it; `none` when nothing has arrived. -/
def fetch (s : State) : Option (Arrival × State) :=
  match s.inbox with
  | [] => none
  | a :: rest => some (a, { s with inbox := rest })

/-- What becomes of bytes that do not decode. At the event port they are malformed or reserved and ignored whole
(R94, R95, R267); at the ports that carry no input they are refused by name (U6 of 93_implementation_defined.md). -/
def undecodable (a : Arrival) (s : State) : Host.Outcome State Fault Refusal :=
  match a.port with
  | .event => .next s
  | .waveform => .refused (.noSuchDutyCode a.bytes)
  | .timerBank => .refused (.noSuchRow .timerBank a.bytes)
  | .command => .refused (.noSuchRow .command a.bytes)
  | .animMode => .refused (.noSuchRow .animMode a.bytes)

/-- The table's word of a row, placed where the next step takes it. -/
def placeWord (s : State) (nbits w : Nat) : State :=
  { s with inbox := ⟨(wordFrame s.config nbits w).1, (wordFrame s.config nbits w).2⟩ :: s.inbox }

/-- The arrival of an instruction: its bytes at its port. -/
def arrivalOf (c : Cfg) (i : Instr) : Arrival := ⟨i.port, encode c i⟩

/-- The environment delivers a script: its frames arrive behind what is waiting (R70, R111). -/
def State.deliver (s : State) (script : List Instr) : State :=
  { s with inbox := s.inbox ++ script.map (arrivalOf s.config) }

/-! Pseudo-events (R112). -/

/-- `TB *n`. -/
def scriptTb (n : Nat) : List Instr := List.replicate n .tb

/-- `TICKS n`. -/
def scriptTicks (c : Cfg) (n : Nat) : List Instr := scriptTb (n * c.tickMs.toNat)

/-- `PRESS pin`. -/
def scriptPress (pin : Byte) : List Instr := [.btnDown pin, .btnUp pin]

/-- `HOLD pin, ms`. -/
def scriptHold (pin : Byte) (ms : Nat) : List Instr := .btnDown pin :: (scriptTb ms ++ [.btnUp pin])

end Sys2Proof.Machine
end

