-- ==== Sys2Proof/Machine/Step.lean ====
section
/-! DEFINITION. One step: the next frame is taken, decoded and run to its end (R70, R130). -/

namespace Sys2Proof.Machine

/-- One step of the block. With nothing waiting it waits: the state does not change (R24, R301; log 6). -/
def step (s : State) : Host.Outcome State Fault Refusal :=
  match fetch s with
  | none => .next s
  | some (a, s1) =>
    match decode s1.config a.port a.bytes with
    | .ok i => exec i s1
    | .error _ => undecodable a s1

/-- `s` with the table's word of a row placed where the next step takes it (log 6). -/
def State.withFetchWord (s : State) (nbits w : Nat) : State := placeWord s nbits w

/-- Runs a script's instructions one after the other, each to its end (R70, R74, R111). -/
def runScript : List Instr → State → Host.Outcome State Fault Refusal
  | [], s => .next s
  | i :: rest, s =>
    match exec i s with
    | .next t => runScript rest t
    | .fault r => .fault r
    | .refused r => .refused r

end Sys2Proof.Machine
end

