-- ==== Sys2Proof/Safety.lean ====
section
/-! DEFINITION. What holds at every event boundary (R43) and what a run may reach. -/

namespace Sys2Proof.Machine

/-- One of the three code values the encoder produces (R108, R109). -/
def isDutyCode (c : Cfg) (w : Code) : Prop := w = codeZeroWord ∨ w = codeShortWord c ∨ w = codeLongWord c

/-- The invariant of the block at every event boundary. The fields `waveBuf` to `dead` are items 1 to 6 of R43 (item 7
holds by the types of the registers); the others are facts of the same rules that the six need, or that the traces of
R41 obey. -/
structure Inv (s : State) : Prop where
  /-- The configuration is well formed (U4). -/
  config : s.config.WF
  /-- The Pixel Frame has `N_PIXELS` registers (R21). -/
  pixels : s.px.length = s.config.nPixels
  /-- R43 item 1. -/
  waveBuf : s.waveBuf = encodePixels s.config s.px
  /-- R43 item 2. -/
  lpArmed : s.lpArmed = s.timers.long.armed
  /-- R43 item 3. -/
  advTimer : s.halted = false → (s.timers.adv.armed = true ↔ s.opState = .advertising)
  /-- R43 item 4. -/
  offTimer : s.halted = false → (s.timers.off.armed = true ↔ s.opState = .shuttingDown)
  /-- R43 item 5. -/
  shownDesc : s.lastDescValid = true → s.opState = .broadcastReceiving ∧
    entryOfDesc s.lastDesc = some ⟨s.animMode, s.cfg.rgb⟩ ∧ s.cfg = Pixel.ofRGB s.cfg.rgb
  /-- R43 item 6. -/
  dead : s.dead = true → ∀ t, (s.timers.get t).armed = false
  /-- In ShuttingDown the timers started by events are cancelled (R135). -/
  quiet : s.opState = .shuttingDown →
    s.timers.long.armed = false ∧ s.timers.cool.armed = false ∧ s.timers.batt.armed = false
  /-- A timer that is not armed holds 0 (U7). -/
  idleTimers : ∀ t, (s.timers.get t).armed = false → (s.timers.get t).rem = 0#32
  /-- An armed timer has between one millisecond and its period left (R136, R138). -/
  armedTimers : ∀ t, (s.timers.get t).armed = true →
    (s.timers.get t).rem ≠ 0#32 ∧ (s.timers.get t).rem ≤ period s.config t
  /-- The animation tick runs unless the block is dead (R195). -/
  tickRuns : s.dead = false → s.timers.tick.armed = true
  /-- The battery check runs unless the block is deaf (R44, R135). -/
  battRuns : s.deaf = false → s.timers.batt.armed = true
  /-- The n-th WAVE_START announces the n-th frame (R224). -/
  starts : s.cmdOut.count [0x80#8] = s.waveOut.length
  /-- Every frame handed over is whole and made of the three codes (R223, R226). -/
  frames : ∀ f ∈ s.waveOut, f.length = s.config.waveLength ∧ ∀ w ∈ f, isDutyCode s.config w
  /-- The last frame handed over is the one that matches `px` (R311). -/
  lastFrame : s.waveOut = [] ∨ s.waveOut.getLast? = some s.waveBuf
  /-- ClapPulse's brightness never falls below its floor (R206). -/
  floor : s.config.cpMin ≤ s.cpBright
  /-- Only frames at the event port wait: nothing else arrives from outside (R90, R93). -/
  inbox : ∀ a ∈ s.inbox, a.port = .event

/-- The states a run can reach: reset under a well-formed configuration, a delivery of frames at the event port, a step. -/
inductive Reachable : State → Prop where
  | reset (c : Cfg) (h : c.WF) : Reachable (State.resetWith c)
  | deliver (s : State) (frames : List Frame) (h : Reachable s) :
      Reachable { s with inbox := s.inbox ++ frames.map (fun f => ⟨.event, f⟩) }
  | step (s t : State) (h : Reachable s) (e : Sys2Proof.Machine.step s = .next t) : Reachable t

end Sys2Proof.Machine
end

