-- ==== Sys2Proof/Certificates/Slice0/Obligations.lean ====
section
/-! DEFINITION. The statements for the provers. `Sys2Proof.Claims` holds the words they are written in: each is one plain
record update or one plain number, taken from a rule and not from the model's operations. -/

open Sys2Proof Sys2Proof.Machine

namespace Sys2Proof.Claims

/-- Not Dead (R132). -/
def Alive (s : State) : Prop := s.halted = false ∧ s.opState ≠ .poweredOff

/-- Not Deaf (R132). -/
def Live (s : State) : Prop := s.halted = false ∧ s.opState ≠ .poweredOff ∧ s.opState ≠ .shuttingDown

/-- The modes in the order of their codes 0 to 7 (R96). -/
def modes : List AnimMode :=
  [.static, .blink, .pulse, .rainbow, .colorShift, .clapToggle, .clapPulse, .waveRainbow]

/-- The rows MODE_* in the order of their codes (R96). -/
def modeRows : List Instr :=
  [.modeStatic, .modeBlink, .modePulse, .modeRainbow, .modeColorShift, .modeClapToggle, .modeClapPulse, .modeWaveRainbow]

/-- `NeedsSensor` (R134). -/
def wantsSensor (m : AnimMode) : Bool := decide (m ∈ [AnimMode.clapToggle, AnimMode.clapPulse, AnimMode.waveRainbow])

/-- A timer that is off, and a timer with `ms` milliseconds left. -/
def off : Timer := ⟨false, 0#32⟩

/-- An armed timer. -/
def armed (ms : BitVec 32) : Timer := ⟨true, ms⟩

/-- `s` with the Pixel Frame `px` written, encoded, handed over and announced by WAVE_START (R22, R224). -/
def framed (s : State) (px : List Pixel) : State :=
  { s with
    px := px
    waveBuf := encodePixels s.config px
    waveOut := s.waveOut ++ [encodePixels s.config px]
    cmdOut := s.cmdOut ++ [[0x80#8]] }

/-- `s` after a tick that writes HSV `f i` to pixel `i` and renders (R22, R196, R224). -/
def frameHSV (s : State) (f : Nat → HSV) : State :=
  framed s ((List.range s.config.nPixels).map (fun i => ⟨hsvToRgb (f i), f i⟩))

/-- `s` after `SetAnim` (R197). -/
def shown (s : State) (e : ModeEntry) : State :=
  framed
    { s with
      animMode := e.mode
      cfg := ⟨e.color, rgbToHsv e.color⟩
      shiftA := if e.mode = .colorShift then rgbToHsv e.color else s.shiftA
      lastDescValid := false }
    (List.replicate s.config.nPixels ⟨e.color, rgbToHsv e.color⟩)

/-- `s` after `ApplyConfig` (R140): SENSOR_PWR, then the configuration. -/
def applied (s : State) (e : ModeEntry) : State :=
  shown
    { s with
      sensorActive := wantsSensor e.mode
      cmdOut := s.cmdOut ++ [[0x81#8, if wantsSensor e.mode then 1#8 else 0#8]] }
    e

/-- `s` after the exit side effect of `Transition` (R135). -/
def left (s : State) : State :=
  if s.opState = .advertising then
    { s with cmdOut := s.cmdOut ++ [[0x83#8]], timers := { s.timers with adv := off } }
  else s

/-- `s` after `Transition(Idle)` (R135). -/
def toIdle (s : State) : State := { applied (left s) s.config.baselineIdle with opState := .idle }

/-- `s` after `Transition(Advertising)` from Idle (R135): stop sensor, start advertising, the baseline, `T_ADV`. -/
def toAdvertising (s : State) : State :=
  { shown { s with sensorActive := false, cmdOut := s.cmdOut ++ [[0x81#8, 0#8], [0x82#8]] } s.config.baselineAdv with
    timers := { s.timers with adv := armed s.config.advTimeoutMs }
    opState := .advertising }

/-- `s` after `Transition(ShuttingDown)` (R135). -/
def toShuttingDown (s : State) : State :=
  { applied
      { left s with
        timers := { (left s).timers with long := off, cool := off, batt := off }
        lpArmed := false }
      s.config.baselineLowBatt with
    timers := { (left s).timers with long := off, cool := off, batt := off, off := armed s.config.offDelayMs }
    opState := .shuttingDown }

/-- `s` after `Halt(src)` (R266). -/
def haltedWith (s : State) (src : Byte) : State :=
  let t := framed
    { s with halted := true, haltSrc := src, timers := ⟨off, off, off, off, off, off⟩, lpArmed := false }
    (List.replicate s.config.nPixels ⟨⟨0#8, 0#8, 0#8⟩, ⟨0#8, 0#8, 0#8⟩⟩)
  { t with cmdOut := t.cmdOut ++ [[0x8C#8, src]] }

/-- `wrap8(c + STEP)` (R11). -/
def stepped (c step : Byte) : Byte := BitVec.ofNat 8 ((c.toNat + step.toNat) % 256)

/-- One channel of the ColorShift interpolation (R204). -/
def between (a b w : Byte) : Byte := BitVec.ofInt 8 (a.toNat + Int.tdiv (((b.toNat : Int) - a.toNat) * w.toNat) 255)

/-- The colour a descriptor unpacks to (R251): 5, 6 and 5 bits, the low bits zero. -/
def descColor (d : BitVec 21) : RGB :=
  ⟨BitVec.ofNat 8 (d.toNat / 2048 % 32 * 8), BitVec.ofNat 8 (d.toNat / 32 % 64 * 4), BitVec.ofNat 8 (d.toNat % 32 * 8)⟩

/-- One timer after phase 1 of TB (R138). -/
def counted (x : Timer) (rep : Bool) (full : BitVec 32) : Timer :=
  if x.armed then
    if 1 < x.rem.toNat then ⟨true, BitVec.ofNat 32 (x.rem.toNat - 1)⟩ else if rep then ⟨true, full⟩ else off
  else x

/-- The timer bank after phase 1 of TB: the battery check and the tick repeat (R33, R138). -/
def countedAll (c : Cfg) (ts : Timers) : Timers :=
  { long := counted ts.long false c.longPressMs
    cool := counted ts.cool false c.cooldownMs
    batt := counted ts.batt true c.battPeriodMs
    adv := counted ts.adv false c.advTimeoutMs
    off := counted ts.off false c.offDelayMs
    tick := counted ts.tick true c.tickMs }

/-- Whether a timer expires in this TB (R138): its last millisecond is counted. -/
def due (x : Timer) : Bool := x.armed && decide (x.rem = 1#32)

/-- No armed timer holds 0 (R136, R138: a timer that reaches 0 is reloaded or disarmed in the same TB). -/
def Counting (s : State) : Prop := ∀ t, (s.timers.get t).armed = true → (s.timers.get t).rem ≠ 0#32

/-- Phase 2 of TB for one timer (R138): its row runs if it was due and the block is not dead by then. -/
def thenFire (o : Host.Outcome State Fault Refusal) (x : Timer) (row : Instr) : Host.Outcome State Fault Refusal :=
  match o with
  | .next t => if due x ∧ t.halted = false ∧ t.opState ≠ .poweredOff then exec row t else .next t
  | .fault r => .fault r
  | .refused r => .refused r

/-- The largest jerk magnitude, on integers (R242). -/
def magnitude (j : Axes) : Nat := max j.x.toInt.natAbs (max j.y.toInt.natAbs j.z.toInt.natAbs)

/-- `s` after `UpdateJerk` (R241). -/
def jerked (s : State) (x y z : Half) : State :=
  { s with
    jerk := ⟨BitVec.ofInt 16 (x.toInt - s.accelPrev.x.toInt), BitVec.ofInt 16 (y.toInt - s.accelPrev.y.toInt),
      BitVec.ofInt 16 (z.toInt - s.accelPrev.z.toInt)⟩
    accelPrev := ⟨x, y, z⟩ }

/-- The frame lengths of the event codes 0x00 to 0x0C (R91, R92). -/
def eventLengths : List Nat := [1, 1, 2, 2, 7, 1, 1, 5, 10, 1, 3, 2, 2]

/-- `i` runs the tick rule of `mode` in `s`: it is that mode's row (log 3), or X_TICK while the mode is active (R154,
R199). -/
def Ticks (i row : Instr) (mode : AnimMode) (s : State) : Prop :=
  i = row ∨ (i = .xTick ∧ Alive s ∧ s.animMode = mode)

/-- The counter a mode owns (R37); Static owns none. -/
def counterOf : AnimMode → State → Byte
  | .static, _ => 0#8
  | .blink, s => s.blinkPhase
  | .pulse, s => s.pulsePhase
  | .rainbow, s => s.rainbowPhase
  | .colorShift, s => s.shiftPhase
  | .clapToggle, s => s.clapHue
  | .clapPulse, s => s.cpBright
  | .waveRainbow, s => s.waveHue

/-- `s` after `BTN_UP` has closed the press: `T_LONG` cancelled, `lp_armed` clear (R142). -/
def released (s : State) : State := { s with timers := { s.timers with long := off }, lpArmed := false }

/-- `s` after `ShortPress` (R143), for a state that is not deaf; the successor of a `Fin 9` wraps. -/
def afterShortPress (s : State) : State :=
  if s.opState = .idle then
    applied { s with buttonMode := s.buttonMode + 1 } (s.config.buttonModes.get (s.buttonMode + 1))
  else if s.opState = .advertising then toIdle s
  else s

/-- `s` after `X_LONG` (R144), for a state that is not deaf. -/
def afterLongPress (s : State) : State :=
  if s.opState = .idle then toAdvertising { s with lpArmed := false }
  else if s.opState = .advertising ∨ s.opState = .linkConnected then toIdle { s with lpArmed := false }
  else { s with lpArmed := false }

/-- Tick `n` falls inside a playback: its start tick and its frame (R110, R228). -/
def Playing (c : Cfg) (p : Nat × List Code) (n : Nat) : Prop := p.1 ≤ n ∧ n < p.1 + p.2.length * c.slotTicks

/-- The largest of three channels. -/
def maxChannel (c : RGB) : Nat := max c.r.toNat (max c.g.toNat c.b.toNat)

/-- How many bits of a byte are 1. -/
def onesOf (x : Byte) : Nat := ((List.range 8).filter (fun b => x.getLsbD b)).length

end Sys2Proof.Claims

open Sys2Proof.Claims

/-! Encoding. -/

/-- Decode and encode agree for every row at its own port, with every operand at every value (R91 to R93, R96, R98, R106,
R108). The configuration is well formed, so that the three duty-cycle words differ (R3). -/
def Obligations.EveryRowDecodesToItself : Prop :=
  ∀ c : Cfg, c.WF → ∀ i : Instr, decode c i.port (encode c i) = .ok i

/-- The other direction at the event port: a frame that decodes is the encoding of what it decodes to, except that the
unused top bit of a BCAST payload is lost (R98, R101). -/
def Obligations.DecodedEventIsItsFrame : Prop :=
  ∀ (c : Cfg) (bs : Frame) (i : Instr), decode c .event bs = .ok i →
    i.port = .event ∧
    (∀ ch P, i = .bcast ch P → encode c i = bs.take 9 ++ [bs.getD 9 0#8 &&& 0x7F#8]) ∧
    ((∀ ch P, i ≠ .bcast ch P) → encode c i = bs)

/-- Frames written out from R91, R92 and R98 decode to the events of 95_test_vectors.md section 5, and the word of CODE_LONG
to its row (that its low byte stands first is the model's choice, log 16). -/
def Obligations.WrittenFramesDecode : Prop :=
  decode CfgRef .event [0x04#8, 0x64#8, 0x00#8, 0xCE#8, 0xFF#8, 0x80#8, 0x3E#8] =
      .ok (.accel 100#16 (BitVec.ofInt 16 (-50)) 16000#16) ∧
    decode CfgRef .event [0x07#8, 0x02#8, 0xFF#8, 0x00#8, 0x80#8] = .ok (.linkCmd 2#8 255#8 0#8 128#8) ∧
    decode CfgRef .event [0x08#8, 0x01#8, 0x41#8, 0x08#8, 0xC2#8, 0x64#8, 0x19#8, 0x00#8, 0x00#8, 0x9C#8] =
      .ok (.bcast 1#8 0x1C00001964C20841#63) ∧
    decode CfgRef .event [0x0A#8, 0xFF#8, 0x01#8] = .ok (.batt 511#16) ∧
    decode CfgRef .event [0x0C#8, 0x05#8] = .ok (.groupSet 5#8) ∧
    decode CfgRef .waveform [0x10#8, 0x80#8] = .ok .codeLong

/-- R94, R95: a frame of a wrong length and a frame of a reserved code, of any length, are taken and change nothing. -/
def Obligations.MalformedFrameChangesNothing : Prop :=
  ∀ (s : State) (bs : Frame) (rest : List Arrival), s.inbox = ⟨.event, bs⟩ :: rest →
    (∀ code, bs.head? = some code → eventLengths[code.toNat]? ≠ some bs.length) →
    step s = .next { s with inbox := rest }

/-- One step runs the decoded row: the waiting frame is taken away and `exec` does the rest (R70, R130). -/
def Obligations.StepRunsTheDecodedRow : Prop :=
  ∀ (s : State) (a : Arrival) (rest : List Arrival) (i : Instr), s.inbox = a :: rest →
    decode s.config a.port a.bytes = .ok i → step s = exec i { s with inbox := rest }

/-- With nothing waiting the block waits (the model's choice of what a step is then; log 6). -/
def Obligations.StepWaitsForAnEvent : Prop := ∀ s : State, s.inbox = [] → step s = .next s

/-- A word at the waveform port that is none of the three codes is refused (U6 of 93_implementation_defined.md; R109; that
its low byte stands first is the model's choice, log 16). -/
def Obligations.ForeignDutyCodeIsRefused : Prop :=
  ∀ (s : State) (lo hi : Byte) (rest : List Arrival), s.inbox = ⟨.waveform, [lo, hi]⟩ :: rest →
    lo.toNat + 256 * hi.toNat ≠ 0x8000 →
    lo.toNat + 256 * hi.toNat ≠ (0x8000 + s.config.shortTicks) % 65536 →
    lo.toNat + 256 * hi.toNat ≠ (0x8000 + s.config.longTicks) % 65536 →
    step s = .refused (.noSuchDutyCode [lo, hi])

/-! Dispatch and gating. -/

/-- R131: every frame at the event port has a next state in every state, whatever its bytes. The second clause goes beyond
R131, which speaks of events only: that every row has one, also an expiry, a command, a mode value or a code word taken
alone, is the model's reading of those rows (log 3) and of the absence of faults (log 12). -/
def Obligations.EveryEventHasASuccessor : Prop :=
  (∀ (s : State) (bs : Frame) (rest : List Arrival), s.inbox = ⟨.event, bs⟩ :: rest → ∃ t, step s = .next t) ∧
  (∀ (i : Instr) (s : State), ∃ t, exec i s = .next t)

/-- R132: what Dead and Deaf ignore. -/
def Obligations.DeadAndDeafIgnoreEvents : Prop :=
  ∀ (i : Instr) (s : State), i.port = .event →
    ((s.halted = true ∨ s.opState = .poweredOff) → exec i s = .next s) ∧
    ((s.halted = true ∨ s.opState = .poweredOff ∨ s.opState = .shuttingDown) → i ≠ .tb → (∀ a, i ≠ .ioFail a) →
      exec i s = .next s)

/-- NOP and X_COOL change nothing, in every state (R150, R159). -/
def Obligations.NopAndCooldownExpiryChangeNothing : Prop :=
  ∀ s : State, exec .nop s = .next s ∧ exec .xCool s = .next s

/-! Events. -/

/-- R141. -/
def Obligations.ButtonDownArmsTheLongPress : Prop :=
  ∀ (s : State) (a : Byte),
    (Live s → a = s.config.buttonPin →
      exec (.btnDown a) s =
        .next { s with timers := { s.timers with long := armed s.config.longPressMs }, lpArmed := true }) ∧
    ((¬ Live s ∨ a ≠ s.config.buttonPin) → exec (.btnDown a) s = .next s)

/-- R142, R143: the short press of each state, and the releases that are ignored. -/
def Obligations.ButtonUpIsAShortPressOrSwallowed : Prop :=
  ∀ (s : State) (a : Byte),
    ((¬ Live s ∨ a ≠ s.config.buttonPin ∨ s.lpArmed = false) → exec (.btnUp a) s = .next s) ∧
    (Live s → a = s.config.buttonPin → s.lpArmed = true →
      (s.opState = .idle → ∀ m : Fin 9, m.val = (s.buttonMode.val + 1) % 9 →
        exec (.btnUp a) s =
          .next (applied
            { s with timers := { s.timers with long := off }, lpArmed := false, buttonMode := m }
            (s.config.buttonModes.get m))) ∧
      (s.opState = .advertising →
        exec (.btnUp a) s = .next (toIdle { s with timers := { s.timers with long := off }, lpArmed := false })) ∧
      ((s.opState = .linkConnected ∨ s.opState = .broadcastReceiving) →
        exec (.btnUp a) s = .next { s with timers := { s.timers with long := off }, lpArmed := false }))

/-- R145, R146, R148: the three link events that move the Operating State, and where they do nothing. -/
def Obligations.LinkEventsMoveTheState : Prop :=
  ∀ s : State,
    (Live s → s.opState = .advertising →
      exec .linkUp s = .next { applied (left s) s.config.baselineLink with opState := .linkConnected }) ∧
    ((¬ Live s ∨ s.opState ≠ .advertising) → exec .linkUp s = .next s) ∧
    (Live s → s.opState = .linkConnected → exec .linkDown s = .next (toIdle s)) ∧
    ((¬ Live s ∨ s.opState ≠ .linkConnected) → exec .linkDown s = .next s) ∧
    (Live s → s.opState = .broadcastReceiving → exec .bcastDrop s = .next (toIdle s)) ∧
    ((¬ Live s ∨ s.opState ≠ .broadcastReceiving) → exec .bcastDrop s = .next s)

/-- R147. -/
def Obligations.LinkCommandAppliesInLinkConnected : Prop :=
  ∀ (s : State) (mode red green blue : Byte),
    (∀ m, Live s → s.opState = .linkConnected → modes[mode.toNat]? = some m →
      exec (.linkCmd mode red green blue) s = .next (applied s ⟨m, ⟨red, green, blue⟩⟩)) ∧
    ((¬ Live s ∨ s.opState ≠ .linkConnected ∨ 7 < mode.toNat) →
      exec (.linkCmd mode red green blue) s = .next s)

/-- R149: the channel, the mode check, equality suppression, and the payload that is applied. -/
def Obligations.BroadcastAppliesTheActiveGroup : Prop :=
  ∀ (s : State) (ch : Byte) (P : BitVec 63) (d : BitVec 21),
    d.toNat = P.toNat / 2 ^ (21 * (s.activeGroup.val % 3)) % 2 ^ 21 →
    ((¬ Live s ∨ ch.toNat ≠ s.activeGroup.val / 3 ∨ 7 < d.toNat / 65536 ∨
      (s.lastDescValid = true ∧ d = s.lastDesc)) → exec (.bcast ch P) s = .next s) ∧
    (∀ m, Live s → ch.toNat = s.activeGroup.val / 3 → modes[d.toNat / 65536]? = some m →
      (s.lastDescValid = false ∨ d ≠ s.lastDesc) →
      exec (.bcast ch P) s =
        .next { applied (left s) ⟨m, descColor d⟩ with
          opState := .broadcastReceiving, lastDesc := d, lastDescValid := true })

/-- R156: the percentage, the shutdown below the threshold, the status while LinkConnected. -/
def Obligations.BatterySampleIsMeasured : Prop :=
  ∀ (s : State) (w : Half) (p : Fin 101),
    (¬ Live s → exec (.batt w) s = .next s) ∧
    (Live s → (p.val : Int) = min 100 (max 0 (Int.tdiv (((w.toNat : Int) - s.config.battRawEmpty.toNat) * 100)
      ((s.config.battRawFull.toNat : Int) - s.config.battRawEmpty.toNat))) →
    (w.toNat < s.config.battShutdownRaw.toNat →
      exec (.batt w) s = .next (toShuttingDown { s with battPct := p })) ∧
    (s.config.battShutdownRaw.toNat ≤ w.toNat → s.opState = .linkConnected →
      exec (.batt w) s =
        .next { s with battPct := p, cmdOut := s.cmdOut ++ [[0x85#8, 1#8, BitVec.ofNat 8 p.val]] }) ∧
    (s.config.battShutdownRaw.toNat ≤ w.toNat → s.opState ≠ .linkConnected →
      exec (.batt w) s = .next { s with battPct := p }))

/-- R157, R266: the fatal entry sequence, in every state that is not dead (ShuttingDown too). -/
def Obligations.PeripheralFailureHalts : Prop :=
  ∀ (s : State) (a : Byte),
    (Alive s → exec (.ioFail a) s = .next (haltedWith s a)) ∧ (¬ Alive s → exec (.ioFail a) s = .next s)

/-- R158. -/
def Obligations.GroupSetSelectsStoresAndTunes : Prop :=
  ∀ (s : State) (a : Byte),
    (∀ g : Fin 6, Live s → a.toNat = g.val + 1 →
      exec (.groupSet a) s =
        .next { s with
          activeGroup := g
          lastDescValid := false
          cmdOut := s.cmdOut ++
            [[0x87#8, BitVec.ofNat 8 g.val], [0x86#8, BitVec.ofNat 8 g.val, BitVec.ofNat 8 (g.val / 3)]] }) ∧
    ((¬ Live s ∨ a.toNat < 1 ∨ 6 < a.toNat) → exec (.groupSet a) s = .next s)

/-- R155, R241, R242: the jerk registers in every mode, then the tier of the Animation Mode. -/
def Obligations.AccelerometerSampleIsFiltered : Prop :=
  ∀ (s : State) (x y z : Half),
    (¬ Live s → exec (.accel x y z) s = .next s) ∧
    (Live s → s.animMode ∈ [AnimMode.static, .blink, .pulse, .rainbow, .colorShift] →
      exec (.accel x y z) s = .next (jerked s x y z)) ∧
    (Live s → s.animMode ∈ [AnimMode.clapToggle, .clapPulse] →
      (s.config.thClap < magnitude (jerked s x y z).jerk → s.timers.cool.armed = false →
        exec (.accel x y z) s =
          .next { jerked s x y z with
            motionFlag := true, timers := { s.timers with cool := armed s.config.cooldownMs } }) ∧
      ((magnitude (jerked s x y z).jerk ≤ s.config.thClap ∨ s.timers.cool.armed = true) →
        exec (.accel x y z) s = .next (jerked s x y z))) ∧
    (Live s → s.animMode = .waveRainbow →
      (s.config.thWave < magnitude (jerked s x y z).jerk →
        exec (.accel x y z) s = .next { jerked s x y z with motionFlag := true }) ∧
      (magnitude (jerked s x y z).jerk ≤ s.config.thWave →
        exec (.accel x y z) s = .next (jerked s x y z)))

/-! Timer expiries and the timebase. -/

/-- R144: the long press of each state. -/
def Obligations.LongPressExpiryActsByState : Prop :=
  ∀ s : State,
    (¬ Live s → exec .xLong s = .next s) ∧
    (Live s → s.opState = .idle → exec .xLong s = .next (toAdvertising { s with lpArmed := false })) ∧
    (Live s → (s.opState = .advertising ∨ s.opState = .linkConnected) →
      exec .xLong s = .next (toIdle { s with lpArmed := false })) ∧
    (Live s → s.opState = .broadcastReceiving → exec .xLong s = .next { s with lpArmed := false })

/-- R151 and R152: the battery check asks for a sample; the advertising timeout goes to Idle. -/
def Obligations.BatteryAndAdvertisingExpiries : Prop :=
  ∀ s : State,
    (Live s → exec .xBatt s = .next { s with cmdOut := s.cmdOut ++ [[0x8B#8]] }) ∧
    (¬ Live s → exec .xBatt s = .next s) ∧
    (Live s → s.opState = .advertising → exec .xAdv s = .next (toIdle s)) ∧
    ((¬ Live s ∨ s.opState ≠ .advertising) → exec .xAdv s = .next s)

/-- R153. -/
def Obligations.PowerOffExpiryEndsTheRun : Prop :=
  ∀ s : State,
    (s.opState = .shuttingDown → s.halted = false →
      exec .xOff s =
        .next { s with
          cmdOut := s.cmdOut ++ [[0x89#8], [0x8A#8], [0x88#8]]
          timers := ⟨off, off, off, off, off, off⟩
          opState := .poweredOff }) ∧
    ((s.opState ≠ .shuttingDown ∨ s.halted = true) → exec .xOff s = .next s)

/-- R154, R199: the animation tick runs exactly the rule of the active mode (which the row MODE_* names, log 3), and runs
neither when halted nor in PoweredOff. -/
def Obligations.TickExpiryRunsTheActiveMode : Prop :=
  ∀ (s : State) (k : Nat) (row : Instr), modes[k]? = some s.animMode → modeRows[k]? = some row →
    (Alive s → exec .xTick s = exec row s) ∧ (¬ Alive s → exec .xTick s = .next s) ∧ ∃ t, exec row s = .next t

/-- R138: the two phases of TB. Every timer is counted first; then the expired timers' rows run in index order, each only
if the block is not dead by then. -/
def Obligations.TimebaseCountsThenFires : Prop :=
  ∀ s : State,
    (¬ Alive s → exec .tb s = .next s) ∧
    (Alive s → Counting s → exec .tb s =
      thenFire (thenFire (thenFire (thenFire (thenFire (thenFire
        (.next { s with timers := countedAll s.config s.timers })
        s.timers.long .xLong) s.timers.cool .xCool) s.timers.batt .xBatt) s.timers.adv .xAdv)
        s.timers.off .xOff) s.timers.tick .xTick)

/-- A TB in which no timer expires counts the armed timers down by one and does nothing else (R138). -/
def Obligations.QuietTimebaseOnlyCounts : Prop :=
  ∀ s : State, Alive s → (∀ t : TimerId, (s.timers.get t).armed = true → 1 < (s.timers.get t).rem.toNat) →
    exec .tb s = .next { s with timers := countedAll s.config s.timers }

/-- The power-off of a TB silences the tick of the same TB: three commands, no frame (R138, R153; program P5). -/
def Obligations.PowerOffPrecedesTheTick : Prop :=
  ∀ s : State, s.halted = false → s.opState = .shuttingDown →
    s.timers.long.armed = false → s.timers.batt.armed = false → s.timers.adv.armed = false →
    s.timers.off = armed 1#32 → s.timers.tick = armed 1#32 →
    exec .tb s =
      .next { s with
        cmdOut := s.cmdOut ++ [[0x89#8], [0x8A#8], [0x88#8]]
        timers := ⟨off, off, off, off, off, off⟩
        opState := .poweredOff }

/-! The tick rules. -/

/-- R200, R201, R202: Static, Blink and Pulse, for the rows of the modes and for X_TICK in them. -/
def Obligations.StaticBlinkPulseTicks : Prop :=
  ∀ s : State,
    (∀ i, Ticks i .modeStatic .static s → exec i s = .next (framed s s.px)) ∧
    (∀ i, Ticks i .modeBlink .blink s → exec i s =
      .next (frameHSV { s with blinkPhase := stepped s.blinkPhase s.config.blinkStep }
        (fun _ => ⟨s.cfg.hsv.h, s.cfg.hsv.s,
          if (stepped s.blinkPhase s.config.blinkStep).toNat < 128 then 255#8 else 0#8⟩))) ∧
    (∀ i, Ticks i .modePulse .pulse s → exec i s =
      .next (frameHSV { s with pulsePhase := stepped s.pulsePhase s.config.pulseStep }
        (fun _ => ⟨s.cfg.hsv.h, s.cfg.hsv.s,
          s.config.sineLut.get (stepped s.pulsePhase s.config.pulseStep).toFin⟩)))

/-- R203, R204: Rainbow and ColorShift. -/
def Obligations.RainbowAndColorShiftTicks : Prop :=
  ∀ s : State,
    (∀ i, Ticks i .modeRainbow .rainbow s → exec i s =
      .next (frameHSV { s with rainbowPhase := stepped s.rainbowPhase s.config.rainbowStep }
        (fun i => ⟨BitVec.ofNat 8 (((stepped s.rainbowPhase s.config.rainbowStep).toNat +
          i * 256 / s.config.nPixels) % 256), 255#8, 255#8⟩))) ∧
    ∀ i w, Ticks i .modeColorShift .colorShift s →
      w = s.config.sineLut.get (stepped s.shiftPhase s.config.shiftStep).toFin →
      exec i s =
        .next (frameHSV { s with shiftPhase := stepped s.shiftPhase s.config.shiftStep }
          (fun _ => ⟨between s.shiftA.h s.config.shiftEndB.h w, between s.shiftA.s s.config.shiftEndB.s w,
            between s.shiftA.v s.config.shiftEndB.v w⟩))

/-- R205, R206, R207: the three modes that consume the Motion Flag. -/
def Obligations.MotionModeTicks : Prop :=
  ∀ (i : Instr) (s : State),
    (s.motionFlag = true →
      (Ticks i .modeClapToggle .clapToggle s → exec i s =
        .next (frameHSV { s with motionFlag := false, clapHue := stepped s.clapHue s.config.clapHueStep }
          (fun _ => ⟨stepped s.clapHue s.config.clapHueStep, 255#8, 255#8⟩))) ∧
      (Ticks i .modeClapPulse .clapPulse s → exec i s =
        .next (frameHSV { s with motionFlag := false, cpBright := 255#8 }
          (fun _ => ⟨s.cfg.hsv.h, s.cfg.hsv.s, 255#8⟩))) ∧
      (Ticks i .modeWaveRainbow .waveRainbow s → exec i s =
        .next (frameHSV { s with motionFlag := false, waveHue := stepped s.waveHue s.config.waveHueStep }
          (fun _ => ⟨stepped s.waveHue s.config.waveHueStep, s.config.waveSat, s.config.waveVal⟩)))) ∧
    (s.motionFlag = false →
      (Ticks i .modeClapToggle .clapToggle s → exec i s = .next (framed s s.px)) ∧
      (∀ v, v = BitVec.ofNat 8 (max (s.cpBright.toNat - s.config.cpDecay.toNat) s.config.cpMin.toNat) →
        Ticks i .modeClapPulse .clapPulse s → exec i s =
          .next (frameHSV { s with cpBright := v } (fun _ => ⟨s.cfg.hsv.h, s.cfg.hsv.s, v⟩))) ∧
      (Ticks i .modeWaveRainbow .waveRainbow s → exec i s = .next s))

/-- Every ColorShift channel lies between its two endpoints, is A at weight 0 and B at weight 255 (R204). -/
def Obligations.ColorShiftStaysBetweenItsEndpoints : Prop :=
  ∀ a b w : Byte,
    min a.toNat b.toNat ≤ (lerp a b w).toNat ∧ (lerp a b w).toNat ≤ max a.toNat b.toNat ∧
    lerp a b 0#8 = a ∧ lerp a b 255#8 = b

/-! Commands and code words. -/

/-- R105, R106: issuing one of these eleven commands appends its one frame and does nothing else (that a command row means
its `emit` is the model's reading, log 3). -/
def Obligations.CommandAppendsItsFrame : Prop :=
  ∀ (s : State) (a b : Byte),
    exec .radioAdvStart s = .next { s with cmdOut := s.cmdOut ++ [[0x82#8]] } ∧
    exec .radioAdvStop s = .next { s with cmdOut := s.cmdOut ++ [[0x83#8]] } ∧
    exec .radioDisconnect s = .next { s with cmdOut := s.cmdOut ++ [[0x84#8]] } ∧
    exec (.radioStatus a b) s = .next { s with cmdOut := s.cmdOut ++ [[0x85#8, a, b]] } ∧
    exec (.radioSetGroup a b) s = .next { s with cmdOut := s.cmdOut ++ [[0x86#8, a, b]] } ∧
    exec (.storeGroup a) s = .next { s with cmdOut := s.cmdOut ++ [[0x87#8, a]] } ∧
    exec .platformOff s = .next { s with cmdOut := s.cmdOut ++ [[0x88#8]] } ∧
    exec .ledDriverOff s = .next { s with cmdOut := s.cmdOut ++ [[0x89#8]] } ∧
    exec .inputIrqOff s = .next { s with cmdOut := s.cmdOut ++ [[0x8A#8]] } ∧
    exec .battSampleReq s = .next { s with cmdOut := s.cmdOut ++ [[0x8B#8]] } ∧
    exec (.fatalReport a) s = .next { s with cmdOut := s.cmdOut ++ [[0x8C#8, a]] }

/-- R133, R224: SENSOR_PWR sets the mirror bit, WAVE_START hands the whole encoded frame over. -/
def Obligations.SensorPowerAndWaveStart : Prop :=
  ∀ s : State,
    exec (.sensorPwr 0#8) s = .next { s with sensorActive := false, cmdOut := s.cmdOut ++ [[0x81#8, 0#8]] } ∧
    exec (.sensorPwr 1#8) s = .next { s with sensorActive := true, cmdOut := s.cmdOut ++ [[0x81#8, 1#8]] } ∧
    exec .waveStart s = .next (framed s s.px)

/-- R108, R228: one bit slot of each code word, under a well-formed configuration. -/
def Obligations.CodeWordPlaysOneSlot : Prop :=
  ∀ s : State, s.config.WF →
    exec .codeZero s = .next { s with line := s.line ++ List.replicate s.config.slotTicks false } ∧
    exec .codeShort s =
      .next { s with line := s.line ++ (List.replicate s.config.shortTicks true ++
        List.replicate (s.config.slotTicks - s.config.shortTicks) false) } ∧
    exec .codeLong s =
      .next { s with line := s.line ++ (List.replicate s.config.longTicks true ++
        List.replicate (s.config.slotTicks - s.config.longTicks) false) }

/-! Reset and invariants. -/

/-- R44: the table's reset values, those that depend on the configuration under every configuration, and all of them as
numbers under the reference configuration. -/
def Obligations.ResetHoldsTheTable : Prop :=
  (∀ c : Cfg, (State.resetWith c).animMode = c.baselineIdle.mode ∧
    (State.resetWith c).cfg = ⟨c.baselineIdle.color, rgbToHsv c.baselineIdle.color⟩ ∧
    (State.resetWith c).px = List.replicate c.nPixels (State.resetWith c).cfg ∧
    (State.resetWith c).activeGroup = c.groupReset ∧ (State.resetWith c).cpBright = c.cpMin ∧
    (State.resetWith c).shiftA = (State.resetWith c).cfg.hsv ∧
    (State.resetWith c).waveBuf = encodePixels c (State.resetWith c).px ∧
    State.resetWith c =
      { State.resetWith CfgRef with
        config := c, animMode := c.baselineIdle.mode, cfg := (State.resetWith c).cfg, px := (State.resetWith c).px
        activeGroup := c.groupReset, cpBright := c.cpMin, shiftA := (State.resetWith c).shiftA
        waveBuf := (State.resetWith c).waveBuf
        timers := ⟨off, off, armed c.battPeriodMs, off, off, armed c.tickMs⟩ }) ∧
  State.reset = State.resetWith CfgRef ∧
  State.reset.config = CfgRef ∧ State.reset.opState = .idle ∧ State.reset.buttonMode = 0 ∧
    State.reset.animMode = .static ∧ State.reset.cfg = ⟨⟨0#8, 0#8, 0#8⟩, ⟨0#8, 0#8, 0#8⟩⟩ ∧
    State.reset.px = List.replicate 4 ⟨⟨0#8, 0#8, 0#8⟩, ⟨0#8, 0#8, 0#8⟩⟩ ∧
    State.reset.sensorActive = false ∧ State.reset.activeGroup = 0 ∧ State.reset.lastDesc = 0#21 ∧
    State.reset.lastDescValid = false ∧ State.reset.battPct = 0 ∧ State.reset.lpArmed = false ∧
    State.reset.motionFlag = false ∧ State.reset.halted = false ∧ State.reset.haltSrc = 0#8 ∧
    State.reset.blinkPhase = 0#8 ∧ State.reset.pulsePhase = 0#8 ∧ State.reset.rainbowPhase = 0#8 ∧
    State.reset.shiftPhase = 0#8 ∧ State.reset.clapHue = 0#8 ∧ State.reset.waveHue = 0#8 ∧
    State.reset.cpBright = 16#8 ∧ State.reset.shiftA = ⟨0#8, 0#8, 0#8⟩ ∧
    State.reset.accelPrev = ⟨0#16, 0#16, 0#16⟩ ∧ State.reset.jerk = ⟨0#16, 0#16, 0#16⟩ ∧
    State.reset.timers = ⟨off, off, armed 60000#32, off, off, armed 25#32⟩ ∧
    State.reset.waveBuf = List.replicate 48 0x8000#16 ++ List.replicate 96 0x8008#16 ∧
    State.reset.cmdOut = [] ∧ State.reset.waveOut = []

/-- The invariant holds right after reset, under every well-formed configuration (R43, R44). -/
def Obligations.BoundaryInvariantHoldsAtReset : Prop := ∀ c : Cfg, c.WF → Inv (State.resetWith c)

/-- Every step keeps the invariant, from every state that has it (R43 and the facts of Safety.lean). -/
def Obligations.EveryStepKeepsTheBoundaryInvariant : Prop := ∀ s t : State, Inv s → step s = .next t → Inv t

/-- R43: items 1 to 7 in every reachable state. -/
def Obligations.ReachableStatesKeepTheBoundaryFacts : Prop :=
  ∀ s : State, Reachable s →
    s.waveBuf = encodePixels s.config s.px ∧
    s.lpArmed = s.timers.long.armed ∧
    (s.halted = false → (s.timers.adv.armed = true ↔ s.opState = .advertising)) ∧
    (s.halted = false → (s.timers.off.armed = true ↔ s.opState = .shuttingDown)) ∧
    (s.lastDescValid = true → s.opState = .broadcastReceiving ∧
      (unpack s.lastDesc).mode.toNat = s.animMode.code ∧
      s.cfg = ⟨(unpack s.lastDesc).color, rgbToHsv (unpack s.lastDesc).color⟩) ∧
    ((s.opState = .poweredOff ∨ s.halted = true) → ∀ t, (s.timers.get t).armed = false) ∧
    s.buttonMode.val ≤ 8 ∧ s.activeGroup.val ≤ 5 ∧ opStateCode s.opState ≤ 5 ∧ s.battPct.val ≤ 100

/-! Rules about the whole machine. -/

/-- R160: from ShuttingDown only the power-off changes `op_state` and only IO_FAIL changes `halted`; PoweredOff and halted
are absorbing for everything. -/
def Obligations.ShuttingDownIsAbsorbing : Prop :=
  ∀ (i : Instr) (s t : State), (i.port = .event ∨ i.port = .timerBank) → exec i s = .next t →
    (s.opState = .shuttingDown →
      (t.opState = .shuttingDown ∨ ((i = .tb ∨ i = .xOff) ∧ t.opState = .poweredOff)) ∧
      (t.halted = s.halted ∨ ∃ a, i = .ioFail a)) ∧
    ((s.halted = true ∨ s.opState = .poweredOff) → t = s)

/-- R2, R41: no row writes the configuration, and the two output traces only grow. -/
def Obligations.OutputsGrowAndConfigurationStays : Prop :=
  ∀ (i : Instr) (s t : State), exec i s = .next t →
    t.config = s.config ∧ s.cmdOut <+: t.cmdOut ∧ s.waveOut <+: t.waveOut

/-- R37: a row that changes the counter of a mode is the tick of that mode: X_TICK, or a TB in which `T_TICK` expires, with
that mode active when the tick runs (and at the end, since no tick changes the mode); or the mode's own row, which is its
tick rule by log 3. So no other event, no other expiry, no command and no code word moves a counter. -/
def Obligations.OnlyTicksMoveTheCounters : Prop :=
  ∀ (i : Instr) (s t : State) (m : AnimMode), exec i s = .next t → counterOf m t ≠ counterOf m s →
    (∃ k : Nat, modes[k]? = some m ∧ modeRows[k]? = some i) ∨
    (Alive s ∧ t.animMode = m ∧
      ((i = .xTick ∧ s.animMode = m) ∨
        (i = .tb ∧ s.timers.tick.armed = true ∧ s.timers.tick.rem.toNat ≤ 1)))

/-- R27: `button_mode` changes only by a short press in Idle, and then to the next of the nine. -/
def Obligations.OnlyShortPressInIdleMovesTheButtonMode : Prop :=
  ∀ (i : Instr) (s t : State), i.port = .event → exec i s = .next t → t.buttonMode ≠ s.buttonMode →
    s.opState = .idle ∧ i = .btnUp s.config.buttonPin ∧ t.buttonMode.val = (s.buttonMode.val + 1) % 9

/-- R162: an event other than TB renders at most one frame, a TB at most two. -/
def Obligations.FramesPerEventAreBounded : Prop :=
  ∀ (i : Instr) (s t : State), i.port = .event → Inv s → exec i s = .next t →
    t.waveOut.length ≤ s.waveOut.length + (if i = .tb then 2 else 1) ∧
    t.cmdOut.count [0x80#8] ≤ s.cmdOut.count [0x80#8] + (if i = .tb then 2 else 1)

/-- R161, from every live state. With fewer than 3000 TB the press is still open and the release is one short press. With
3000 or more it is closed and the release does nothing. The 3000th TB runs X_LONG's action on the state held then (`r`
is the state after 2999), before that TB's other expiries; by it Idle goes to Advertising, Advertising and LinkConnected
to Idle (under the invariant of Safety.lean, which rules out timers that no run has). -/
def Obligations.EachPressActsOnce : Prop :=
  ∀ (s : State) (n : Nat), Live s → s.config.WF →
    (n < 3000 → ∃ t, runScript (.btnDown s.config.buttonPin :: scriptTb n) s = .next t ∧ Live t ∧
      t.lpArmed = true ∧ t.timers.long = armed (BitVec.ofNat 32 (3000 - n)) ∧ t.buttonMode = s.buttonMode ∧
      runScript (scriptHold s.config.buttonPin n) s = .next (afterShortPress (released t))) ∧
    (3000 ≤ n → ∃ t, runScript (.btnDown s.config.buttonPin :: scriptTb n) s = .next t ∧
      t.lpArmed = false ∧ t.timers.long = off ∧ t.buttonMode = s.buttonMode ∧
      runScript (scriptHold s.config.buttonPin n) s = .next t) ∧
    (Inv s → ∃ r t, runScript (.btnDown s.config.buttonPin :: scriptTb 2999) s = .next r ∧ Live r ∧
      runScript (.btnDown s.config.buttonPin :: scriptTb 3000) s = .next t ∧
      .next t = thenFire (thenFire (thenFire (thenFire (thenFire
        (.next (afterLongPress { r with timers := countedAll r.config r.timers }))
        r.timers.cool .xCool) r.timers.batt .xBatt) r.timers.adv .xAdv) r.timers.off .xOff) r.timers.tick .xTick ∧
      (r.opState = .idle → t.opState = .advertising) ∧
      ((r.opState = .advertising ∨ r.opState = .linkConnected) → t.opState = .idle) ∧
      (r.opState = .broadcastReceiving → t.opState = .broadcastReceiving))

/-- R163: from Idle with `button_mode = 6`, the modes nine short presses visit, and the SENSOR_PWR operands they emit,
under the reference table. -/
def Obligations.NinePressesReturnToClapToggle : Prop :=
  ∀ (s : State) (k : Nat), s.halted = false → s.opState = .idle → s.buttonMode = 6 →
    s.config.buttonModes = buttonModesReference → k ≤ 9 →
    ∃ t, runScript (List.replicate k (scriptPress s.config.buttonPin)).flatten s = .next t ∧
      t.opState = .idle ∧ [6, 7, 8, 0, 1, 2, 3, 4, 5, 6][k]? = some t.buttonMode.val ∧
      (k = 9 → t.animMode = .clapToggle) ∧
      t.cmdOut = s.cmdOut ++ (([1#8, 1#8, 0#8, 0#8, 0#8, 0#8, 0#8, 0#8, 1#8].take k).map
        (fun b => [[0x81#8, b], [0x80#8]])).flatten

/-- R243, R244: a running cooldown lasts exactly its milliseconds, and while it runs a sample in a clap mode sets no
flag and restarts nothing. -/
def Obligations.CooldownGatesTheClapTier : Prop :=
  ∀ (s : State) (n : Nat) (full : BitVec 32), Live s → s.timers.cool = armed full → full ≠ 0#32 →
    (n < full.toNat → ∃ t, runScript (scriptTb n) s = .next t ∧ Live t ∧
      t.timers.cool = armed (BitVec.ofNat 32 (full.toNat - n)) ∧
      ∀ x y z, t.animMode ∈ [AnimMode.clapToggle, .clapPulse] →
        exec (.accel x y z) t = .next (jerked t x y z)) ∧
    (n = full.toNat → ∃ t, runScript (scriptTb n) s = .next t ∧ Live t ∧ t.timers.cool = off)

/-! The transforms. -/

/-- R181: grey at saturation 0, else the six regions of 43 hues. `p`, `q` and `t` are the rule's three channels. -/
def Obligations.HsvToRgbFollowsTheSixRegions : Prop :=
  ∀ h s v p q t : Byte,
    p.toNat = v.toNat * (255 - s.toNat) / 256 →
    q.toNat = v.toNat * (255 - s.toNat * (h.toNat % 43 * 6) / 256) / 256 →
    t.toNat = v.toNat * (255 - s.toNat * (255 - h.toNat % 43 * 6) / 256) / 256 →
    (s = 0#8 → hsvToRgb ⟨h, s, v⟩ = ⟨v, v, v⟩) ∧
    (s ≠ 0#8 → some (hsvToRgb ⟨h, s, v⟩) =
      [(⟨v, t, p⟩ : RGB), ⟨q, v, p⟩, ⟨p, v, t⟩, ⟨p, q, v⟩, ⟨t, p, v⟩, ⟨v, p, q⟩][h.toNat / 43]?)

/-- R184: value, saturation, and the hue from the dominant channel (red before green before blue). -/
def Obligations.RgbToHsvFollowsTheDominantChannel : Prop :=
  ∀ (c : RGB) (mx d sat : Nat) (hue : Int),
    mx = max c.r.toNat (max c.g.toNat c.b.toNat) →
    d = mx - min c.r.toNat (min c.g.toNat c.b.toNat) →
    sat = 255 * d / mx →
    hue = (if mx = c.r.toNat then Int.tdiv (43 * ((c.g.toNat : Int) - c.b.toNat)) d
      else if mx = c.g.toNat then 85 + Int.tdiv (43 * ((c.b.toNat : Int) - c.r.toNat)) d
      else 171 + Int.tdiv (43 * ((c.r.toNat : Int) - c.g.toNat)) d) →
    (mx = 0 → rgbToHsv c = ⟨0#8, 0#8, 0#8⟩) ∧
    (mx ≠ 0 → sat = 0 → rgbToHsv c = ⟨0#8, 0#8, BitVec.ofNat 8 mx⟩) ∧
    (sat ≠ 0 → rgbToHsv c = ⟨BitVec.ofInt 8 hue, BitVec.ofNat 8 sat, BitVec.ofNat 8 mx⟩)

/-- R182 (items 1 to 3) and R187 (first bullet): greys, black, and the value channel, which survives the round trip. -/
def Obligations.HsvToRgbKeepsTheValue : Prop :=
  ∀ c : HSV,
    (c.s = 0#8 → hsvToRgb c = ⟨c.v, c.v, c.v⟩) ∧
    (c.v = 0#8 → hsvToRgb c = ⟨0#8, 0#8, 0#8⟩) ∧
    maxChannel (hsvToRgb c) = c.v.toNat ∧
    (rgbToHsv (hsvToRgb c)).v = c.v

/-- R185 (items 1 and 2): the saturation is 0 exactly for greys, and a grey has hue 0. -/
def Obligations.OnlyGreysHaveNoSaturation : Prop :=
  ∀ c : RGB,
    ((rgbToHsv c).s = 0#8 ↔ c.r = c.g ∧ c.g = c.b) ∧
    ((rgbToHsv c).s = 0#8 → (rgbToHsv c).h = 0#8) ∧
    (rgbToHsv c).v.toNat = maxChannel c

/-- R250, R251, R255: the fields of a descriptor, `unpack` after `pack`, and `pack` after `unpack`. -/
def Obligations.PackAndUnpackRoundTrip : Prop :=
  (∀ (m : BitVec 5) (c : RGB),
    (pack m c).toNat = m.toNat * 2 ^ 16 + c.r.toNat / 8 * 2 ^ 11 + c.g.toNat / 4 * 2 ^ 5 + c.b.toNat / 8 ∧
    (unpack (pack m c)).mode = m ∧
    (unpack (pack m c)).color.r.toNat = c.r.toNat - c.r.toNat % 8 ∧
    (unpack (pack m c)).color.g.toNat = c.g.toNat - c.g.toNat % 4 ∧
    (unpack (pack m c)).color.b.toNat = c.b.toNat - c.b.toNat % 8) ∧
  (∀ d : BitVec 21, (unpack d).mode.toNat = d.toNat / 2 ^ 16 ∧ (unpack d).color = descColor d ∧
    pack (unpack d).mode (unpack d).color = d)

/-- R252, R253: each slot of a composite payload gives its descriptor back, the payload is their sum, and `Extract` takes
21 bits. -/
def Obligations.ExtractUndoesCompose : Prop :=
  ∀ d0 d1 d2 : BitVec 21,
    extractDesc (compose d0 d1 d2) 0 = d0 ∧ extractDesc (compose d0 d1 d2) 1 = d1 ∧
    extractDesc (compose d0 d1 d2) 2 = d2 ∧
    (compose d0 d1 d2).toNat = d0.toNat + 2 ^ 21 * d1.toNat + 2 ^ 42 * d2.toNat ∧
    ∀ (P : BitVec 63) (slot : Fin 3), (extractDesc P slot.val).toNat = P.toNat / 2 ^ (21 * slot.val) % 2 ^ 21

/-- R223: length, black, white, the number of long codes, injectivity on RGB, and the common quiescent codes. -/
def Obligations.EncodedFrameShape : Prop :=
  ∀ (c : Cfg) (px : List Pixel), c.WF → px.length = c.nPixels →
    (encodePixels c px).length = c.resetCodes + 24 * c.nPixels ∧
    ((∀ p ∈ px, p.rgb = ⟨0#8, 0#8, 0#8⟩) →
      encodePixels c px = List.replicate c.resetCodes 0x8000#16 ++
        List.replicate (24 * c.nPixels) (BitVec.ofNat 16 (0x8000 + c.shortTicks))) ∧
    ((∀ p ∈ px, p.rgb = ⟨255#8, 255#8, 255#8⟩) →
      encodePixels c px = List.replicate c.resetCodes 0x8000#16 ++
        List.replicate (24 * c.nPixels) (BitVec.ofNat 16 (0x8000 + c.longTicks))) ∧
    (encodePixels c px).count (BitVec.ofNat 16 (0x8000 + c.longTicks)) =
      (px.map (fun p => onesOf p.rgb.r + onesOf p.rgb.g + onesOf p.rgb.b)).sum ∧
    (∀ qx : List Pixel, qx.length = c.nPixels →
      (encodePixels c px = encodePixels c qx ↔ px.map Pixel.rgb = qx.map Pixel.rgb)) ∧
    (encodePixels c px).take c.resetCodes = List.replicate c.resetCodes 0x8000#16

/-- R62, R65: the prefix, and the code of bit `b` of colour byte `j` of pixel `p` stands at `RESET_CODES + 24p + 8j + (7 − b)`. -/
def Obligations.EveryBitHasItsIndex : Prop :=
  ∀ (c : Cfg) (px : List Pixel) (p b : Nat) (q : Pixel), px[p]? = some q → b ≤ 7 →
    (∀ k, k < c.resetCodes → (encodePixels c px)[k]? = some 0x8000#16) ∧
    (encodePixels c px)[c.resetCodes + 24 * p + 8 * 0 + (7 - b)]? =
      some (BitVec.ofNat 16 (0x8000 + if q.rgb.g.getLsbD b then c.longTicks else c.shortTicks)) ∧
    (encodePixels c px)[c.resetCodes + 24 * p + 8 * 1 + (7 - b)]? =
      some (BitVec.ofNat 16 (0x8000 + if q.rgb.r.getLsbD b then c.longTicks else c.shortTicks)) ∧
    (encodePixels c px)[c.resetCodes + 24 * p + 8 * 2 + (7 - b)]? =
      some (BitVec.ofNat 16 (0x8000 + if q.rgb.b.getLsbD b then c.longTicks else c.shortTicks))

/-- R228, R230: the line function; the line of a frame of the encoder is low for the whole quiescent time, at least 50 µs, and outside the frame; in the
slot of a data bit it is high exactly for that bit's ticks. -/
def Obligations.LineOfAFrame : Prop :=
  ∀ (c : Cfg) (px : List Pixel) (n : Nat), c.WF → px.length = c.nPixels →
    (∀ frame : List Code,
      (∀ w, frame[n / c.slotTicks]? = some w → lineAt c frame n =
        decide (w.toNat / 32768 = 1 ∧ n % c.slotTicks < min (w.toNat % 32768) c.slotTicks)) ∧
      (frame.length * c.slotTicks ≤ n → lineAt c frame n = false)) ∧
    (n < c.resetCodes * c.slotTicks → lineAt c (encodePixels c px) n = false) ∧
    50000 ≤ c.resetCodes * c.slotTicks * c.tickNs ∧
    ((c.resetCodes + 24 * c.nPixels) * c.slotTicks ≤ n → lineAt c (encodePixels c px) n = false) ∧
    (∀ (k j : Nat) (bit : Bool), j < c.slotTicks →
      (encodePixels c px)[k]? = some (BitVec.ofNat 16 (0x8000 + if bit then c.longTicks else c.shortTicks)) →
      lineAt c (encodePixels c px) (k * c.slotTicks + j) = decide (j < if bit then c.longTicks else c.shortTicks))

/-- R110, R228: for any playbacks, the port's line is low at a tick outside all of them (before the first frame, between
frames, after the last), and is the frame's line at a tick inside exactly one. -/
def Obligations.PortLineOutsideOverlap : Prop :=
  ∀ (c : Cfg) (playbacks : List (Nat × List Code)) (n : Nat),
    ((∀ p ∈ playbacks, ¬ Playing c p n) → portLine c playbacks n = false) ∧
    (∀ (earlier later : List (Nat × List Code)) (p : Nat × List Code), playbacks = earlier ++ p :: later →
      Playing c p n → (∀ q ∈ earlier ++ later, ¬ Playing c q n) →
      portLine c playbacks n = lineAt c p.2 (n - p.1))
end

