-- ==== Sys2Proof/Laws/Encoding.lean ====
section
/-! SUPPORT. What the byte order, the code words and the Waveform Encoder do, once. -/

namespace Sys2Proof

/-- R98: `byte1 + 256 × byte2`. -/
theorem ofLE16_toNat (lo hi : Byte) : (ofLE16 lo hi).toNat = lo.toNat + 256 * hi.toNat := by
  have := lo.isLt
  show (hi ++ lo : BitVec (8 + 8)).toNat = _
  rw [BitVec.toNat_append, ← Nat.shiftLeft_add_eq_or_of_lt this, Nat.shiftLeft_eq]
  omega

/-- The two bytes of a word give the word back (R67, R98). -/
theorem ofLE16_toLE16 (w : Half) : ofLE16 (w.extractLsb' 0 8) (w.extractLsb' 8 8) = w := by
  have := w.isLt
  apply BitVec.eq_of_toNat_eq
  rw [ofLE16_toNat]
  simp [BitVec.extractLsb'_toNat, Nat.shiftRight_eq_div_pow]
  omega

/-- Different compare values give different code words (R107). -/
theorem dutyCode_ne {a b : Nat} (ha : a ≤ 32767) (hb : b ≤ 32767) (h : a ≠ b) : dutyCode a ≠ dutyCode b := by
  intro e
  have := congrArg BitVec.toNat e
  simp [dutyCode] at this
  omega

/-- The fields of a code word (R107). -/
theorem dutyCode_fields {k : Nat} (hk : k ≤ 32767) : polOf (dutyCode k) = true ∧ cmpOf (dutyCode k) = k := by
  constructor
  · unfold polOf dutyCode
    rw [BitVec.getLsbD_ofNat, Nat.testBit_eq_decide_div_mod_eq]
    simp
    omega
  · simp [cmpOf, dutyCode]
    omega

theorem encodePixel_length (c : Cfg) (p : Pixel) : (encodePixel c p).length = 24 := by
  simp [encodePixel, encodeByte]

/-- R223 item 1, for any number of pixels. -/
theorem encodePixels_length (c : Cfg) (px : List Pixel) :
    (encodePixels c px).length = c.resetCodes + 24 * px.length := by
  simp only [encodePixels, List.length_append, List.length_replicate, List.length_flatMap, encodePixel_length]
  simp
  omega

/-- Every element of a buffer is one of the three codes (R108). -/
theorem encodePixels_codes (c : Cfg) (px : List Pixel) :
    ∀ w ∈ encodePixels c px, w = codeZeroWord ∨ w = codeShortWord c ∨ w = codeLongWord c := by
  intro w hw
  simp only [encodePixels, encodePixel, encodeByte, dataCode, List.mem_append, List.mem_replicate, List.mem_flatMap,
    List.mem_map] at hw
  rcases hw with ⟨-, rfl⟩ | ⟨p, -, (⟨b, -, rfl⟩ | ⟨b, -, rfl⟩) | ⟨b, -, rfl⟩⟩
  · exact .inl rfl
  all_goals split <;> simp

/-- The codes of pixel `p` stand together, in pixel order (R62, R222). -/
theorem flatMap_encodePixel_get (c : Cfg) : ∀ (px : List Pixel) (p k : Nat) (q : Pixel), px[p]? = some q → k < 24 →
    (px.flatMap (encodePixel c))[24 * p + k]? = (encodePixel c q)[k]?
  | [], _, _, _, h, _ => by simp at h
  | x :: xs, 0, k, q, h, hk => by
    simp at h
    subst h
    rw [List.flatMap_cons, List.getElem?_append_left (by rw [encodePixel_length]; omega)]
    simp
  | x :: xs, p + 1, k, q, h, hk => by
    rw [List.flatMap_cons, List.getElem?_append_right (by rw [encodePixel_length]; omega), encodePixel_length,
      show 24 * (p + 1) + k - 24 = 24 * p + k by omega]
    exact flatMap_encodePixel_get c xs p k q (by simpa using h) hk

end Sys2Proof
end

