-- ==== Sys2Proof/Laws/State.lean ====
section
/-! SUPPORT. For each primitive update of the state: what each field reads afterwards. Every lemma is true by rfl. -/

namespace Sys2Proof.Machine

/-! Reads of the timer bank after a write. -/

@[simp] theorem Timers.get_set_self (ts : Timers) (t : TimerId) (x : Timer) : (ts.set t x).get t = x := by
  cases t <;> rfl

@[simp] theorem Timers.get_set_other (ts : Timers) (t u : TimerId) (x : Timer) (h : u ≠ t) :
    (ts.set t x).get u = ts.get u := by
  cases t <;> cases u <;> first | rfl | exact absurd rfl h

theorem Timers.get_set (ts : Timers) (t u : TimerId) (x : Timer) :
    (ts.set t x).get u = if u = t then x else ts.get u := by
  cases t <;> cases u <;> rfl

/-! `Start(t)` (R136). -/

@[simp] theorem State.start_config (s : State) (t : TimerId) : (s.start t).config = s.config := rfl
@[simp] theorem State.start_px (s : State) (t : TimerId) : (s.start t).px = s.px := rfl
@[simp] theorem State.start_cfg (s : State) (t : TimerId) : (s.start t).cfg = s.cfg := rfl
@[simp] theorem State.start_opState (s : State) (t : TimerId) : (s.start t).opState = s.opState := rfl
@[simp] theorem State.start_buttonMode (s : State) (t : TimerId) : (s.start t).buttonMode = s.buttonMode := rfl
@[simp] theorem State.start_animMode (s : State) (t : TimerId) : (s.start t).animMode = s.animMode := rfl
@[simp] theorem State.start_sensorActive (s : State) (t : TimerId) : (s.start t).sensorActive = s.sensorActive := rfl
@[simp] theorem State.start_activeGroup (s : State) (t : TimerId) : (s.start t).activeGroup = s.activeGroup := rfl
@[simp] theorem State.start_lastDesc (s : State) (t : TimerId) : (s.start t).lastDesc = s.lastDesc := rfl
@[simp] theorem State.start_lastDescValid (s : State) (t : TimerId) :
    (s.start t).lastDescValid = s.lastDescValid := rfl
@[simp] theorem State.start_battPct (s : State) (t : TimerId) : (s.start t).battPct = s.battPct := rfl
@[simp] theorem State.start_timers (s : State) (t : TimerId) :
    (s.start t).timers = s.timers.set t ⟨true, period s.config t⟩ := rfl
@[simp] theorem State.start_lpArmed (s : State) (t : TimerId) : (s.start t).lpArmed = s.lpArmed := rfl
@[simp] theorem State.start_motionFlag (s : State) (t : TimerId) : (s.start t).motionFlag = s.motionFlag := rfl
@[simp] theorem State.start_halted (s : State) (t : TimerId) : (s.start t).halted = s.halted := rfl
@[simp] theorem State.start_haltSrc (s : State) (t : TimerId) : (s.start t).haltSrc = s.haltSrc := rfl
@[simp] theorem State.start_blinkPhase (s : State) (t : TimerId) : (s.start t).blinkPhase = s.blinkPhase := rfl
@[simp] theorem State.start_pulsePhase (s : State) (t : TimerId) : (s.start t).pulsePhase = s.pulsePhase := rfl
@[simp] theorem State.start_rainbowPhase (s : State) (t : TimerId) : (s.start t).rainbowPhase = s.rainbowPhase := rfl
@[simp] theorem State.start_shiftPhase (s : State) (t : TimerId) : (s.start t).shiftPhase = s.shiftPhase := rfl
@[simp] theorem State.start_clapHue (s : State) (t : TimerId) : (s.start t).clapHue = s.clapHue := rfl
@[simp] theorem State.start_cpBright (s : State) (t : TimerId) : (s.start t).cpBright = s.cpBright := rfl
@[simp] theorem State.start_waveHue (s : State) (t : TimerId) : (s.start t).waveHue = s.waveHue := rfl
@[simp] theorem State.start_shiftA (s : State) (t : TimerId) : (s.start t).shiftA = s.shiftA := rfl
@[simp] theorem State.start_accelPrev (s : State) (t : TimerId) : (s.start t).accelPrev = s.accelPrev := rfl
@[simp] theorem State.start_jerk (s : State) (t : TimerId) : (s.start t).jerk = s.jerk := rfl
@[simp] theorem State.start_waveBuf (s : State) (t : TimerId) : (s.start t).waveBuf = s.waveBuf := rfl
@[simp] theorem State.start_cmdOut (s : State) (t : TimerId) : (s.start t).cmdOut = s.cmdOut := rfl
@[simp] theorem State.start_waveOut (s : State) (t : TimerId) : (s.start t).waveOut = s.waveOut := rfl
@[simp] theorem State.start_inbox (s : State) (t : TimerId) : (s.start t).inbox = s.inbox := rfl
@[simp] theorem State.start_line (s : State) (t : TimerId) : (s.start t).line = s.line := rfl

/-! `Cancel(t)` (R137). -/

@[simp] theorem State.cancel_config (s : State) (t : TimerId) : (s.cancel t).config = s.config := rfl
@[simp] theorem State.cancel_px (s : State) (t : TimerId) : (s.cancel t).px = s.px := rfl
@[simp] theorem State.cancel_cfg (s : State) (t : TimerId) : (s.cancel t).cfg = s.cfg := rfl
@[simp] theorem State.cancel_opState (s : State) (t : TimerId) : (s.cancel t).opState = s.opState := rfl
@[simp] theorem State.cancel_buttonMode (s : State) (t : TimerId) : (s.cancel t).buttonMode = s.buttonMode := rfl
@[simp] theorem State.cancel_animMode (s : State) (t : TimerId) : (s.cancel t).animMode = s.animMode := rfl
@[simp] theorem State.cancel_sensorActive (s : State) (t : TimerId) :
    (s.cancel t).sensorActive = s.sensorActive := rfl
@[simp] theorem State.cancel_activeGroup (s : State) (t : TimerId) : (s.cancel t).activeGroup = s.activeGroup := rfl
@[simp] theorem State.cancel_lastDesc (s : State) (t : TimerId) : (s.cancel t).lastDesc = s.lastDesc := rfl
@[simp] theorem State.cancel_lastDescValid (s : State) (t : TimerId) :
    (s.cancel t).lastDescValid = s.lastDescValid := rfl
@[simp] theorem State.cancel_battPct (s : State) (t : TimerId) : (s.cancel t).battPct = s.battPct := rfl
@[simp] theorem State.cancel_timers (s : State) (t : TimerId) : (s.cancel t).timers = s.timers.set t Timer.idle := rfl
@[simp] theorem State.cancel_lpArmed (s : State) (t : TimerId) : (s.cancel t).lpArmed = s.lpArmed := rfl
@[simp] theorem State.cancel_motionFlag (s : State) (t : TimerId) : (s.cancel t).motionFlag = s.motionFlag := rfl
@[simp] theorem State.cancel_halted (s : State) (t : TimerId) : (s.cancel t).halted = s.halted := rfl
@[simp] theorem State.cancel_haltSrc (s : State) (t : TimerId) : (s.cancel t).haltSrc = s.haltSrc := rfl
@[simp] theorem State.cancel_blinkPhase (s : State) (t : TimerId) : (s.cancel t).blinkPhase = s.blinkPhase := rfl
@[simp] theorem State.cancel_pulsePhase (s : State) (t : TimerId) : (s.cancel t).pulsePhase = s.pulsePhase := rfl
@[simp] theorem State.cancel_rainbowPhase (s : State) (t : TimerId) :
    (s.cancel t).rainbowPhase = s.rainbowPhase := rfl
@[simp] theorem State.cancel_shiftPhase (s : State) (t : TimerId) : (s.cancel t).shiftPhase = s.shiftPhase := rfl
@[simp] theorem State.cancel_clapHue (s : State) (t : TimerId) : (s.cancel t).clapHue = s.clapHue := rfl
@[simp] theorem State.cancel_cpBright (s : State) (t : TimerId) : (s.cancel t).cpBright = s.cpBright := rfl
@[simp] theorem State.cancel_waveHue (s : State) (t : TimerId) : (s.cancel t).waveHue = s.waveHue := rfl
@[simp] theorem State.cancel_shiftA (s : State) (t : TimerId) : (s.cancel t).shiftA = s.shiftA := rfl
@[simp] theorem State.cancel_accelPrev (s : State) (t : TimerId) : (s.cancel t).accelPrev = s.accelPrev := rfl
@[simp] theorem State.cancel_jerk (s : State) (t : TimerId) : (s.cancel t).jerk = s.jerk := rfl
@[simp] theorem State.cancel_waveBuf (s : State) (t : TimerId) : (s.cancel t).waveBuf = s.waveBuf := rfl
@[simp] theorem State.cancel_cmdOut (s : State) (t : TimerId) : (s.cancel t).cmdOut = s.cmdOut := rfl
@[simp] theorem State.cancel_waveOut (s : State) (t : TimerId) : (s.cancel t).waveOut = s.waveOut := rfl
@[simp] theorem State.cancel_inbox (s : State) (t : TimerId) : (s.cancel t).inbox = s.inbox := rfl
@[simp] theorem State.cancel_line (s : State) (t : TimerId) : (s.cancel t).line = s.line := rfl

/-! `Cancel(t)` for every timer. -/

@[simp] theorem State.cancelAll_config (s : State) : (s.cancelAll).config = s.config := rfl
@[simp] theorem State.cancelAll_px (s : State) : (s.cancelAll).px = s.px := rfl
@[simp] theorem State.cancelAll_cfg (s : State) : (s.cancelAll).cfg = s.cfg := rfl
@[simp] theorem State.cancelAll_opState (s : State) : (s.cancelAll).opState = s.opState := rfl
@[simp] theorem State.cancelAll_buttonMode (s : State) : (s.cancelAll).buttonMode = s.buttonMode := rfl
@[simp] theorem State.cancelAll_animMode (s : State) : (s.cancelAll).animMode = s.animMode := rfl
@[simp] theorem State.cancelAll_sensorActive (s : State) : (s.cancelAll).sensorActive = s.sensorActive := rfl
@[simp] theorem State.cancelAll_activeGroup (s : State) : (s.cancelAll).activeGroup = s.activeGroup := rfl
@[simp] theorem State.cancelAll_lastDesc (s : State) : (s.cancelAll).lastDesc = s.lastDesc := rfl
@[simp] theorem State.cancelAll_lastDescValid (s : State) : (s.cancelAll).lastDescValid = s.lastDescValid := rfl
@[simp] theorem State.cancelAll_battPct (s : State) : (s.cancelAll).battPct = s.battPct := rfl
@[simp] theorem State.cancelAll_timers (s : State) :
    (s.cancelAll).timers = ⟨Timer.idle, Timer.idle, Timer.idle, Timer.idle, Timer.idle, Timer.idle⟩ := rfl
@[simp] theorem State.cancelAll_lpArmed (s : State) : (s.cancelAll).lpArmed = s.lpArmed := rfl
@[simp] theorem State.cancelAll_motionFlag (s : State) : (s.cancelAll).motionFlag = s.motionFlag := rfl
@[simp] theorem State.cancelAll_halted (s : State) : (s.cancelAll).halted = s.halted := rfl
@[simp] theorem State.cancelAll_haltSrc (s : State) : (s.cancelAll).haltSrc = s.haltSrc := rfl
@[simp] theorem State.cancelAll_blinkPhase (s : State) : (s.cancelAll).blinkPhase = s.blinkPhase := rfl
@[simp] theorem State.cancelAll_pulsePhase (s : State) : (s.cancelAll).pulsePhase = s.pulsePhase := rfl
@[simp] theorem State.cancelAll_rainbowPhase (s : State) : (s.cancelAll).rainbowPhase = s.rainbowPhase := rfl
@[simp] theorem State.cancelAll_shiftPhase (s : State) : (s.cancelAll).shiftPhase = s.shiftPhase := rfl
@[simp] theorem State.cancelAll_clapHue (s : State) : (s.cancelAll).clapHue = s.clapHue := rfl
@[simp] theorem State.cancelAll_cpBright (s : State) : (s.cancelAll).cpBright = s.cpBright := rfl
@[simp] theorem State.cancelAll_waveHue (s : State) : (s.cancelAll).waveHue = s.waveHue := rfl
@[simp] theorem State.cancelAll_shiftA (s : State) : (s.cancelAll).shiftA = s.shiftA := rfl
@[simp] theorem State.cancelAll_accelPrev (s : State) : (s.cancelAll).accelPrev = s.accelPrev := rfl
@[simp] theorem State.cancelAll_jerk (s : State) : (s.cancelAll).jerk = s.jerk := rfl
@[simp] theorem State.cancelAll_waveBuf (s : State) : (s.cancelAll).waveBuf = s.waveBuf := rfl
@[simp] theorem State.cancelAll_cmdOut (s : State) : (s.cancelAll).cmdOut = s.cmdOut := rfl
@[simp] theorem State.cancelAll_waveOut (s : State) : (s.cancelAll).waveOut = s.waveOut := rfl
@[simp] theorem State.cancelAll_inbox (s : State) : (s.cancelAll).inbox = s.inbox := rfl
@[simp] theorem State.cancelAll_line (s : State) : (s.cancelAll).line = s.line := rfl

/-! `emit` (R105). -/

@[simp] theorem State.emit_config (s : State) (cmd : Instr) : (s.emit cmd).config = s.config := rfl
@[simp] theorem State.emit_px (s : State) (cmd : Instr) : (s.emit cmd).px = s.px := rfl
@[simp] theorem State.emit_cfg (s : State) (cmd : Instr) : (s.emit cmd).cfg = s.cfg := rfl
@[simp] theorem State.emit_opState (s : State) (cmd : Instr) : (s.emit cmd).opState = s.opState := rfl
@[simp] theorem State.emit_buttonMode (s : State) (cmd : Instr) : (s.emit cmd).buttonMode = s.buttonMode := rfl
@[simp] theorem State.emit_animMode (s : State) (cmd : Instr) : (s.emit cmd).animMode = s.animMode := rfl
@[simp] theorem State.emit_sensorActive (s : State) (cmd : Instr) : (s.emit cmd).sensorActive = s.sensorActive := rfl
@[simp] theorem State.emit_activeGroup (s : State) (cmd : Instr) : (s.emit cmd).activeGroup = s.activeGroup := rfl
@[simp] theorem State.emit_lastDesc (s : State) (cmd : Instr) : (s.emit cmd).lastDesc = s.lastDesc := rfl
@[simp] theorem State.emit_lastDescValid (s : State) (cmd : Instr) :
    (s.emit cmd).lastDescValid = s.lastDescValid := rfl
@[simp] theorem State.emit_battPct (s : State) (cmd : Instr) : (s.emit cmd).battPct = s.battPct := rfl
@[simp] theorem State.emit_timers (s : State) (cmd : Instr) : (s.emit cmd).timers = s.timers := rfl
@[simp] theorem State.emit_lpArmed (s : State) (cmd : Instr) : (s.emit cmd).lpArmed = s.lpArmed := rfl
@[simp] theorem State.emit_motionFlag (s : State) (cmd : Instr) : (s.emit cmd).motionFlag = s.motionFlag := rfl
@[simp] theorem State.emit_halted (s : State) (cmd : Instr) : (s.emit cmd).halted = s.halted := rfl
@[simp] theorem State.emit_haltSrc (s : State) (cmd : Instr) : (s.emit cmd).haltSrc = s.haltSrc := rfl
@[simp] theorem State.emit_blinkPhase (s : State) (cmd : Instr) : (s.emit cmd).blinkPhase = s.blinkPhase := rfl
@[simp] theorem State.emit_pulsePhase (s : State) (cmd : Instr) : (s.emit cmd).pulsePhase = s.pulsePhase := rfl
@[simp] theorem State.emit_rainbowPhase (s : State) (cmd : Instr) : (s.emit cmd).rainbowPhase = s.rainbowPhase := rfl
@[simp] theorem State.emit_shiftPhase (s : State) (cmd : Instr) : (s.emit cmd).shiftPhase = s.shiftPhase := rfl
@[simp] theorem State.emit_clapHue (s : State) (cmd : Instr) : (s.emit cmd).clapHue = s.clapHue := rfl
@[simp] theorem State.emit_cpBright (s : State) (cmd : Instr) : (s.emit cmd).cpBright = s.cpBright := rfl
@[simp] theorem State.emit_waveHue (s : State) (cmd : Instr) : (s.emit cmd).waveHue = s.waveHue := rfl
@[simp] theorem State.emit_shiftA (s : State) (cmd : Instr) : (s.emit cmd).shiftA = s.shiftA := rfl
@[simp] theorem State.emit_accelPrev (s : State) (cmd : Instr) : (s.emit cmd).accelPrev = s.accelPrev := rfl
@[simp] theorem State.emit_jerk (s : State) (cmd : Instr) : (s.emit cmd).jerk = s.jerk := rfl
@[simp] theorem State.emit_waveBuf (s : State) (cmd : Instr) : (s.emit cmd).waveBuf = s.waveBuf := rfl
@[simp] theorem State.emit_cmdOut (s : State) (cmd : Instr) :
    (s.emit cmd).cmdOut = s.cmdOut ++ [encode s.config cmd] := rfl
@[simp] theorem State.emit_waveOut (s : State) (cmd : Instr) : (s.emit cmd).waveOut = s.waveOut := rfl
@[simp] theorem State.emit_inbox (s : State) (cmd : Instr) : (s.emit cmd).inbox = s.inbox := rfl
@[simp] theorem State.emit_line (s : State) (cmd : Instr) : (s.emit cmd).line = s.line := rfl

/-! writing every pixel (R22). -/

@[simp] theorem State.paint_config (s : State) (f : Nat → Pixel) : (s.paint f).config = s.config := rfl
@[simp] theorem State.paint_px (s : State) (f : Nat → Pixel) :
    (s.paint f).px = (List.range s.config.nPixels).map f := rfl
@[simp] theorem State.paint_cfg (s : State) (f : Nat → Pixel) : (s.paint f).cfg = s.cfg := rfl
@[simp] theorem State.paint_opState (s : State) (f : Nat → Pixel) : (s.paint f).opState = s.opState := rfl
@[simp] theorem State.paint_buttonMode (s : State) (f : Nat → Pixel) : (s.paint f).buttonMode = s.buttonMode := rfl
@[simp] theorem State.paint_animMode (s : State) (f : Nat → Pixel) : (s.paint f).animMode = s.animMode := rfl
@[simp] theorem State.paint_sensorActive (s : State) (f : Nat → Pixel) :
    (s.paint f).sensorActive = s.sensorActive := rfl
@[simp] theorem State.paint_activeGroup (s : State) (f : Nat → Pixel) : (s.paint f).activeGroup = s.activeGroup := rfl
@[simp] theorem State.paint_lastDesc (s : State) (f : Nat → Pixel) : (s.paint f).lastDesc = s.lastDesc := rfl
@[simp] theorem State.paint_lastDescValid (s : State) (f : Nat → Pixel) :
    (s.paint f).lastDescValid = s.lastDescValid := rfl
@[simp] theorem State.paint_battPct (s : State) (f : Nat → Pixel) : (s.paint f).battPct = s.battPct := rfl
@[simp] theorem State.paint_timers (s : State) (f : Nat → Pixel) : (s.paint f).timers = s.timers := rfl
@[simp] theorem State.paint_lpArmed (s : State) (f : Nat → Pixel) : (s.paint f).lpArmed = s.lpArmed := rfl
@[simp] theorem State.paint_motionFlag (s : State) (f : Nat → Pixel) : (s.paint f).motionFlag = s.motionFlag := rfl
@[simp] theorem State.paint_halted (s : State) (f : Nat → Pixel) : (s.paint f).halted = s.halted := rfl
@[simp] theorem State.paint_haltSrc (s : State) (f : Nat → Pixel) : (s.paint f).haltSrc = s.haltSrc := rfl
@[simp] theorem State.paint_blinkPhase (s : State) (f : Nat → Pixel) : (s.paint f).blinkPhase = s.blinkPhase := rfl
@[simp] theorem State.paint_pulsePhase (s : State) (f : Nat → Pixel) : (s.paint f).pulsePhase = s.pulsePhase := rfl
@[simp] theorem State.paint_rainbowPhase (s : State) (f : Nat → Pixel) :
    (s.paint f).rainbowPhase = s.rainbowPhase := rfl
@[simp] theorem State.paint_shiftPhase (s : State) (f : Nat → Pixel) : (s.paint f).shiftPhase = s.shiftPhase := rfl
@[simp] theorem State.paint_clapHue (s : State) (f : Nat → Pixel) : (s.paint f).clapHue = s.clapHue := rfl
@[simp] theorem State.paint_cpBright (s : State) (f : Nat → Pixel) : (s.paint f).cpBright = s.cpBright := rfl
@[simp] theorem State.paint_waveHue (s : State) (f : Nat → Pixel) : (s.paint f).waveHue = s.waveHue := rfl
@[simp] theorem State.paint_shiftA (s : State) (f : Nat → Pixel) : (s.paint f).shiftA = s.shiftA := rfl
@[simp] theorem State.paint_accelPrev (s : State) (f : Nat → Pixel) : (s.paint f).accelPrev = s.accelPrev := rfl
@[simp] theorem State.paint_jerk (s : State) (f : Nat → Pixel) : (s.paint f).jerk = s.jerk := rfl
@[simp] theorem State.paint_waveBuf (s : State) (f : Nat → Pixel) : (s.paint f).waveBuf = s.waveBuf := rfl
@[simp] theorem State.paint_cmdOut (s : State) (f : Nat → Pixel) : (s.paint f).cmdOut = s.cmdOut := rfl
@[simp] theorem State.paint_waveOut (s : State) (f : Nat → Pixel) : (s.paint f).waveOut = s.waveOut := rfl
@[simp] theorem State.paint_inbox (s : State) (f : Nat → Pixel) : (s.paint f).inbox = s.inbox := rfl
@[simp] theorem State.paint_line (s : State) (f : Nat → Pixel) : (s.paint f).line = s.line := rfl

/-! the hand-off (R224). -/

@[simp] theorem State.handOver_config (s : State) : (s.handOver).config = s.config := rfl
@[simp] theorem State.handOver_px (s : State) : (s.handOver).px = s.px := rfl
@[simp] theorem State.handOver_cfg (s : State) : (s.handOver).cfg = s.cfg := rfl
@[simp] theorem State.handOver_opState (s : State) : (s.handOver).opState = s.opState := rfl
@[simp] theorem State.handOver_buttonMode (s : State) : (s.handOver).buttonMode = s.buttonMode := rfl
@[simp] theorem State.handOver_animMode (s : State) : (s.handOver).animMode = s.animMode := rfl
@[simp] theorem State.handOver_sensorActive (s : State) : (s.handOver).sensorActive = s.sensorActive := rfl
@[simp] theorem State.handOver_activeGroup (s : State) : (s.handOver).activeGroup = s.activeGroup := rfl
@[simp] theorem State.handOver_lastDesc (s : State) : (s.handOver).lastDesc = s.lastDesc := rfl
@[simp] theorem State.handOver_lastDescValid (s : State) : (s.handOver).lastDescValid = s.lastDescValid := rfl
@[simp] theorem State.handOver_battPct (s : State) : (s.handOver).battPct = s.battPct := rfl
@[simp] theorem State.handOver_timers (s : State) : (s.handOver).timers = s.timers := rfl
@[simp] theorem State.handOver_lpArmed (s : State) : (s.handOver).lpArmed = s.lpArmed := rfl
@[simp] theorem State.handOver_motionFlag (s : State) : (s.handOver).motionFlag = s.motionFlag := rfl
@[simp] theorem State.handOver_halted (s : State) : (s.handOver).halted = s.halted := rfl
@[simp] theorem State.handOver_haltSrc (s : State) : (s.handOver).haltSrc = s.haltSrc := rfl
@[simp] theorem State.handOver_blinkPhase (s : State) : (s.handOver).blinkPhase = s.blinkPhase := rfl
@[simp] theorem State.handOver_pulsePhase (s : State) : (s.handOver).pulsePhase = s.pulsePhase := rfl
@[simp] theorem State.handOver_rainbowPhase (s : State) : (s.handOver).rainbowPhase = s.rainbowPhase := rfl
@[simp] theorem State.handOver_shiftPhase (s : State) : (s.handOver).shiftPhase = s.shiftPhase := rfl
@[simp] theorem State.handOver_clapHue (s : State) : (s.handOver).clapHue = s.clapHue := rfl
@[simp] theorem State.handOver_cpBright (s : State) : (s.handOver).cpBright = s.cpBright := rfl
@[simp] theorem State.handOver_waveHue (s : State) : (s.handOver).waveHue = s.waveHue := rfl
@[simp] theorem State.handOver_shiftA (s : State) : (s.handOver).shiftA = s.shiftA := rfl
@[simp] theorem State.handOver_accelPrev (s : State) : (s.handOver).accelPrev = s.accelPrev := rfl
@[simp] theorem State.handOver_jerk (s : State) : (s.handOver).jerk = s.jerk := rfl
@[simp] theorem State.handOver_waveBuf (s : State) : (s.handOver).waveBuf = encodePixels s.config s.px := rfl
@[simp] theorem State.handOver_cmdOut (s : State) : (s.handOver).cmdOut = s.cmdOut := rfl
@[simp] theorem State.handOver_waveOut (s : State) :
    (s.handOver).waveOut = s.waveOut ++ [encodePixels s.config s.px] := rfl
@[simp] theorem State.handOver_inbox (s : State) : (s.handOver).inbox = s.inbox := rfl
@[simp] theorem State.handOver_line (s : State) : (s.handOver).line = s.line := rfl

/-! the registers of `SetAnim` (R197). -/

@[simp] theorem State.setConfigured_config (s : State) (e : ModeEntry) : (s.setConfigured e).config = s.config := rfl
@[simp] theorem State.setConfigured_px (s : State) (e : ModeEntry) : (s.setConfigured e).px = s.px := rfl
@[simp] theorem State.setConfigured_cfg (s : State) (e : ModeEntry) :
    (s.setConfigured e).cfg = Pixel.ofRGB e.color := rfl
@[simp] theorem State.setConfigured_opState (s : State) (e : ModeEntry) :
    (s.setConfigured e).opState = s.opState := rfl
@[simp] theorem State.setConfigured_buttonMode (s : State) (e : ModeEntry) :
    (s.setConfigured e).buttonMode = s.buttonMode := rfl
@[simp] theorem State.setConfigured_animMode (s : State) (e : ModeEntry) :
    (s.setConfigured e).animMode = e.mode := rfl
@[simp] theorem State.setConfigured_sensorActive (s : State) (e : ModeEntry) :
    (s.setConfigured e).sensorActive = s.sensorActive := rfl
@[simp] theorem State.setConfigured_activeGroup (s : State) (e : ModeEntry) :
    (s.setConfigured e).activeGroup = s.activeGroup := rfl
@[simp] theorem State.setConfigured_lastDesc (s : State) (e : ModeEntry) :
    (s.setConfigured e).lastDesc = s.lastDesc := rfl
@[simp] theorem State.setConfigured_lastDescValid (s : State) (e : ModeEntry) :
    (s.setConfigured e).lastDescValid = false := rfl
@[simp] theorem State.setConfigured_battPct (s : State) (e : ModeEntry) :
    (s.setConfigured e).battPct = s.battPct := rfl
@[simp] theorem State.setConfigured_timers (s : State) (e : ModeEntry) : (s.setConfigured e).timers = s.timers := rfl
@[simp] theorem State.setConfigured_lpArmed (s : State) (e : ModeEntry) :
    (s.setConfigured e).lpArmed = s.lpArmed := rfl
@[simp] theorem State.setConfigured_motionFlag (s : State) (e : ModeEntry) :
    (s.setConfigured e).motionFlag = s.motionFlag := rfl
@[simp] theorem State.setConfigured_halted (s : State) (e : ModeEntry) : (s.setConfigured e).halted = s.halted := rfl
@[simp] theorem State.setConfigured_haltSrc (s : State) (e : ModeEntry) :
    (s.setConfigured e).haltSrc = s.haltSrc := rfl
@[simp] theorem State.setConfigured_blinkPhase (s : State) (e : ModeEntry) :
    (s.setConfigured e).blinkPhase = s.blinkPhase := rfl
@[simp] theorem State.setConfigured_pulsePhase (s : State) (e : ModeEntry) :
    (s.setConfigured e).pulsePhase = s.pulsePhase := rfl
@[simp] theorem State.setConfigured_rainbowPhase (s : State) (e : ModeEntry) :
    (s.setConfigured e).rainbowPhase = s.rainbowPhase := rfl
@[simp] theorem State.setConfigured_shiftPhase (s : State) (e : ModeEntry) :
    (s.setConfigured e).shiftPhase = s.shiftPhase := rfl
@[simp] theorem State.setConfigured_clapHue (s : State) (e : ModeEntry) :
    (s.setConfigured e).clapHue = s.clapHue := rfl
@[simp] theorem State.setConfigured_cpBright (s : State) (e : ModeEntry) :
    (s.setConfigured e).cpBright = s.cpBright := rfl
@[simp] theorem State.setConfigured_waveHue (s : State) (e : ModeEntry) :
    (s.setConfigured e).waveHue = s.waveHue := rfl
@[simp] theorem State.setConfigured_shiftA (s : State) (e : ModeEntry) :
    (s.setConfigured e).shiftA = if e.mode = .colorShift then (Pixel.ofRGB e.color).hsv else s.shiftA := rfl
@[simp] theorem State.setConfigured_accelPrev (s : State) (e : ModeEntry) :
    (s.setConfigured e).accelPrev = s.accelPrev := rfl
@[simp] theorem State.setConfigured_jerk (s : State) (e : ModeEntry) : (s.setConfigured e).jerk = s.jerk := rfl
@[simp] theorem State.setConfigured_waveBuf (s : State) (e : ModeEntry) :
    (s.setConfigured e).waveBuf = s.waveBuf := rfl
@[simp] theorem State.setConfigured_cmdOut (s : State) (e : ModeEntry) : (s.setConfigured e).cmdOut = s.cmdOut := rfl
@[simp] theorem State.setConfigured_waveOut (s : State) (e : ModeEntry) :
    (s.setConfigured e).waveOut = s.waveOut := rfl
@[simp] theorem State.setConfigured_inbox (s : State) (e : ModeEntry) : (s.setConfigured e).inbox = s.inbox := rfl
@[simp] theorem State.setConfigured_line (s : State) (e : ModeEntry) : (s.setConfigured e).line = s.line := rfl

/-! the latch of `Halt` (R266). -/

@[simp] theorem State.latchHalt_config (s : State) (src : Byte) : (s.latchHalt src).config = s.config := rfl
@[simp] theorem State.latchHalt_px (s : State) (src : Byte) : (s.latchHalt src).px = s.px := rfl
@[simp] theorem State.latchHalt_cfg (s : State) (src : Byte) : (s.latchHalt src).cfg = s.cfg := rfl
@[simp] theorem State.latchHalt_opState (s : State) (src : Byte) : (s.latchHalt src).opState = s.opState := rfl
@[simp] theorem State.latchHalt_buttonMode (s : State) (src : Byte) :
    (s.latchHalt src).buttonMode = s.buttonMode := rfl
@[simp] theorem State.latchHalt_animMode (s : State) (src : Byte) : (s.latchHalt src).animMode = s.animMode := rfl
@[simp] theorem State.latchHalt_sensorActive (s : State) (src : Byte) :
    (s.latchHalt src).sensorActive = s.sensorActive := rfl
@[simp] theorem State.latchHalt_activeGroup (s : State) (src : Byte) :
    (s.latchHalt src).activeGroup = s.activeGroup := rfl
@[simp] theorem State.latchHalt_lastDesc (s : State) (src : Byte) : (s.latchHalt src).lastDesc = s.lastDesc := rfl
@[simp] theorem State.latchHalt_lastDescValid (s : State) (src : Byte) :
    (s.latchHalt src).lastDescValid = s.lastDescValid := rfl
@[simp] theorem State.latchHalt_battPct (s : State) (src : Byte) : (s.latchHalt src).battPct = s.battPct := rfl
@[simp] theorem State.latchHalt_timers (s : State) (src : Byte) :
    (s.latchHalt src).timers = ⟨Timer.idle, Timer.idle, Timer.idle, Timer.idle, Timer.idle, Timer.idle⟩ := rfl
@[simp] theorem State.latchHalt_lpArmed (s : State) (src : Byte) : (s.latchHalt src).lpArmed = false := rfl
@[simp] theorem State.latchHalt_motionFlag (s : State) (src : Byte) :
    (s.latchHalt src).motionFlag = s.motionFlag := rfl
@[simp] theorem State.latchHalt_halted (s : State) (src : Byte) : (s.latchHalt src).halted = true := rfl
@[simp] theorem State.latchHalt_haltSrc (s : State) (src : Byte) : (s.latchHalt src).haltSrc = src := rfl
@[simp] theorem State.latchHalt_blinkPhase (s : State) (src : Byte) :
    (s.latchHalt src).blinkPhase = s.blinkPhase := rfl
@[simp] theorem State.latchHalt_pulsePhase (s : State) (src : Byte) :
    (s.latchHalt src).pulsePhase = s.pulsePhase := rfl
@[simp] theorem State.latchHalt_rainbowPhase (s : State) (src : Byte) :
    (s.latchHalt src).rainbowPhase = s.rainbowPhase := rfl
@[simp] theorem State.latchHalt_shiftPhase (s : State) (src : Byte) :
    (s.latchHalt src).shiftPhase = s.shiftPhase := rfl
@[simp] theorem State.latchHalt_clapHue (s : State) (src : Byte) : (s.latchHalt src).clapHue = s.clapHue := rfl
@[simp] theorem State.latchHalt_cpBright (s : State) (src : Byte) : (s.latchHalt src).cpBright = s.cpBright := rfl
@[simp] theorem State.latchHalt_waveHue (s : State) (src : Byte) : (s.latchHalt src).waveHue = s.waveHue := rfl
@[simp] theorem State.latchHalt_shiftA (s : State) (src : Byte) : (s.latchHalt src).shiftA = s.shiftA := rfl
@[simp] theorem State.latchHalt_accelPrev (s : State) (src : Byte) : (s.latchHalt src).accelPrev = s.accelPrev := rfl
@[simp] theorem State.latchHalt_jerk (s : State) (src : Byte) : (s.latchHalt src).jerk = s.jerk := rfl
@[simp] theorem State.latchHalt_waveBuf (s : State) (src : Byte) : (s.latchHalt src).waveBuf = s.waveBuf := rfl
@[simp] theorem State.latchHalt_cmdOut (s : State) (src : Byte) : (s.latchHalt src).cmdOut = s.cmdOut := rfl
@[simp] theorem State.latchHalt_waveOut (s : State) (src : Byte) : (s.latchHalt src).waveOut = s.waveOut := rfl
@[simp] theorem State.latchHalt_inbox (s : State) (src : Byte) : (s.latchHalt src).inbox = s.inbox := rfl
@[simp] theorem State.latchHalt_line (s : State) (src : Byte) : (s.latchHalt src).line = s.line := rfl

/-! one bit slot (R228). -/

@[simp] theorem State.playSlot_config (s : State) (w : Code) : (s.playSlot w).config = s.config := rfl
@[simp] theorem State.playSlot_px (s : State) (w : Code) : (s.playSlot w).px = s.px := rfl
@[simp] theorem State.playSlot_cfg (s : State) (w : Code) : (s.playSlot w).cfg = s.cfg := rfl
@[simp] theorem State.playSlot_opState (s : State) (w : Code) : (s.playSlot w).opState = s.opState := rfl
@[simp] theorem State.playSlot_buttonMode (s : State) (w : Code) : (s.playSlot w).buttonMode = s.buttonMode := rfl
@[simp] theorem State.playSlot_animMode (s : State) (w : Code) : (s.playSlot w).animMode = s.animMode := rfl
@[simp] theorem State.playSlot_sensorActive (s : State) (w : Code) :
    (s.playSlot w).sensorActive = s.sensorActive := rfl
@[simp] theorem State.playSlot_activeGroup (s : State) (w : Code) : (s.playSlot w).activeGroup = s.activeGroup := rfl
@[simp] theorem State.playSlot_lastDesc (s : State) (w : Code) : (s.playSlot w).lastDesc = s.lastDesc := rfl
@[simp] theorem State.playSlot_lastDescValid (s : State) (w : Code) :
    (s.playSlot w).lastDescValid = s.lastDescValid := rfl
@[simp] theorem State.playSlot_battPct (s : State) (w : Code) : (s.playSlot w).battPct = s.battPct := rfl
@[simp] theorem State.playSlot_timers (s : State) (w : Code) : (s.playSlot w).timers = s.timers := rfl
@[simp] theorem State.playSlot_lpArmed (s : State) (w : Code) : (s.playSlot w).lpArmed = s.lpArmed := rfl
@[simp] theorem State.playSlot_motionFlag (s : State) (w : Code) : (s.playSlot w).motionFlag = s.motionFlag := rfl
@[simp] theorem State.playSlot_halted (s : State) (w : Code) : (s.playSlot w).halted = s.halted := rfl
@[simp] theorem State.playSlot_haltSrc (s : State) (w : Code) : (s.playSlot w).haltSrc = s.haltSrc := rfl
@[simp] theorem State.playSlot_blinkPhase (s : State) (w : Code) : (s.playSlot w).blinkPhase = s.blinkPhase := rfl
@[simp] theorem State.playSlot_pulsePhase (s : State) (w : Code) : (s.playSlot w).pulsePhase = s.pulsePhase := rfl
@[simp] theorem State.playSlot_rainbowPhase (s : State) (w : Code) :
    (s.playSlot w).rainbowPhase = s.rainbowPhase := rfl
@[simp] theorem State.playSlot_shiftPhase (s : State) (w : Code) : (s.playSlot w).shiftPhase = s.shiftPhase := rfl
@[simp] theorem State.playSlot_clapHue (s : State) (w : Code) : (s.playSlot w).clapHue = s.clapHue := rfl
@[simp] theorem State.playSlot_cpBright (s : State) (w : Code) : (s.playSlot w).cpBright = s.cpBright := rfl
@[simp] theorem State.playSlot_waveHue (s : State) (w : Code) : (s.playSlot w).waveHue = s.waveHue := rfl
@[simp] theorem State.playSlot_shiftA (s : State) (w : Code) : (s.playSlot w).shiftA = s.shiftA := rfl
@[simp] theorem State.playSlot_accelPrev (s : State) (w : Code) : (s.playSlot w).accelPrev = s.accelPrev := rfl
@[simp] theorem State.playSlot_jerk (s : State) (w : Code) : (s.playSlot w).jerk = s.jerk := rfl
@[simp] theorem State.playSlot_waveBuf (s : State) (w : Code) : (s.playSlot w).waveBuf = s.waveBuf := rfl
@[simp] theorem State.playSlot_cmdOut (s : State) (w : Code) : (s.playSlot w).cmdOut = s.cmdOut := rfl
@[simp] theorem State.playSlot_waveOut (s : State) (w : Code) : (s.playSlot w).waveOut = s.waveOut := rfl
@[simp] theorem State.playSlot_inbox (s : State) (w : Code) : (s.playSlot w).inbox = s.inbox := rfl
@[simp] theorem State.playSlot_line (s : State) (w : Code) :
    (s.playSlot w).line = s.line ++ slotLevels s.config w := rfl

end Sys2Proof.Machine
end

