-- ==== Sys2Proof/Laws/Ops.lean ====
section
/-! SUPPORT. For each shared operation one lemma that says once everything it does, as one record update of the state it
is given. -/

namespace Sys2Proof.Machine

theorem State.render_eq (s : State) :
    s.render = { s with
      waveBuf := encodePixels s.config s.px
      waveOut := s.waveOut ++ [encodePixels s.config s.px]
      cmdOut := s.cmdOut ++ [[0x80#8]] } := rfl

theorem State.setSensor_eq (s : State) (b : Bool) :
    s.setSensor b = { s with sensorActive := b, cmdOut := s.cmdOut ++ [[0x81#8, sensorOperand b]] } := rfl

/-- `AllHSV` and `Render` (R196, R224). -/
theorem State.allHSV_render_eq (s : State) (c : HSV) :
    (s.allHSV c).render = { s with
      px := (List.range s.config.nPixels).map (fun _ => Pixel.ofHSV c)
      waveBuf := encodePixels s.config ((List.range s.config.nPixels).map (fun _ => Pixel.ofHSV c))
      waveOut := s.waveOut ++ [encodePixels s.config ((List.range s.config.nPixels).map (fun _ => Pixel.ofHSV c))]
      cmdOut := s.cmdOut ++ [[0x80#8]] } := rfl

/-- `SetAnim` (R197). -/
theorem State.setAnim_eq (s : State) (e : ModeEntry) :
    s.setAnim e = { s with
      animMode := e.mode
      cfg := Pixel.ofRGB e.color
      shiftA := if e.mode = .colorShift then (Pixel.ofRGB e.color).hsv else s.shiftA
      lastDescValid := false
      px := (List.range s.config.nPixels).map (fun _ => Pixel.ofRGB e.color)
      waveBuf := encodePixels s.config ((List.range s.config.nPixels).map (fun _ => Pixel.ofRGB e.color))
      waveOut := s.waveOut ++
        [encodePixels s.config ((List.range s.config.nPixels).map (fun _ => Pixel.ofRGB e.color))]
      cmdOut := s.cmdOut ++ [[0x80#8]] } := rfl

/-- `ApplyConfig` (R140). -/
theorem State.applyConfig_eq (s : State) (e : ModeEntry) :
    s.applyConfig e = { s with
      sensorActive := needsSensor e.mode
      animMode := e.mode
      cfg := Pixel.ofRGB e.color
      shiftA := if e.mode = .colorShift then (Pixel.ofRGB e.color).hsv else s.shiftA
      lastDescValid := false
      px := (List.range s.config.nPixels).map (fun _ => Pixel.ofRGB e.color)
      waveBuf := encodePixels s.config ((List.range s.config.nPixels).map (fun _ => Pixel.ofRGB e.color))
      waveOut := s.waveOut ++
        [encodePixels s.config ((List.range s.config.nPixels).map (fun _ => Pixel.ofRGB e.color))]
      cmdOut := s.cmdOut ++ [[0x81#8, sensorOperand (needsSensor e.mode)]] ++ [[0x80#8]] } := rfl

/-- The exit side effect (R135). -/
theorem State.exitEffect_eq (s : State) :
    s.exitEffect = { s with
      cmdOut := if s.opState = .advertising then s.cmdOut ++ [[0x83#8]] else s.cmdOut
      timers := if s.opState = .advertising then s.timers.set .adv Timer.idle else s.timers } := by
  unfold State.exitEffect
  split <;> rfl

/-- `Halt` (R266). -/
theorem State.halt_eq (s : State) (src : Byte) :
    s.halt src = { s with
      halted := true
      haltSrc := src
      timers := ⟨Timer.idle, Timer.idle, Timer.idle, Timer.idle, Timer.idle, Timer.idle⟩
      lpArmed := false
      px := (List.range s.config.nPixels).map (fun _ => Pixel.ofRGB black)
      waveBuf := encodePixels s.config ((List.range s.config.nPixels).map (fun _ => Pixel.ofRGB black))
      waveOut := s.waveOut ++ [encodePixels s.config ((List.range s.config.nPixels).map (fun _ => Pixel.ofRGB black))]
      cmdOut := s.cmdOut ++ [[0x80#8]] ++ [[0x8C#8, src]] } := rfl

/-- `Transition` writes `op_state` last (R135). -/
@[simp] theorem State.transition_opState (s : State) (new : OpState) : (s.transition new).opState = new := rfl

/-- Every write of the Pixel Frame leaves `N_PIXELS` registers (R21, R60). -/
theorem State.paint_length (s : State) (f : Nat → Pixel) : (s.paint f).px.length = s.config.nPixels := by
  simp

/-- The fields no part of `Transition` writes (R135). -/
theorem State.transition_frame (s : State) (new : OpState) :
    (s.transition new).config = s.config ∧ (s.transition new).buttonMode = s.buttonMode ∧
    (s.transition new).activeGroup = s.activeGroup ∧ (s.transition new).lastDesc = s.lastDesc ∧
    (s.transition new).battPct = s.battPct ∧ (s.transition new).motionFlag = s.motionFlag ∧
    (s.transition new).halted = s.halted ∧ (s.transition new).haltSrc = s.haltSrc ∧
    (s.transition new).blinkPhase = s.blinkPhase ∧ (s.transition new).pulsePhase = s.pulsePhase ∧
    (s.transition new).rainbowPhase = s.rainbowPhase ∧ (s.transition new).shiftPhase = s.shiftPhase ∧
    (s.transition new).clapHue = s.clapHue ∧ (s.transition new).cpBright = s.cpBright ∧
    (s.transition new).waveHue = s.waveHue ∧ (s.transition new).accelPrev = s.accelPrev ∧
    (s.transition new).jerk = s.jerk ∧ (s.transition new).inbox = s.inbox ∧ (s.transition new).line = s.line := by
  cases new <;>
    simp [State.transition, State.entryEffect, State.exitEffect_eq, State.applyConfig_eq, State.setAnim_eq,
      State.setSensor_eq, State.quiesce]

/-- What a tick of each mode leaves alone: it writes only the Pixel Frame, the buffer, the two traces, the Motion Flag and
the counters (R199 to R207). -/
theorem animationTick_frame (s : State) :
    (animationTick s).config = s.config ∧ (animationTick s).cfg = s.cfg ∧ (animationTick s).opState = s.opState ∧
    (animationTick s).buttonMode = s.buttonMode ∧ (animationTick s).animMode = s.animMode ∧
    (animationTick s).sensorActive = s.sensorActive ∧ (animationTick s).activeGroup = s.activeGroup ∧
    (animationTick s).lastDesc = s.lastDesc ∧ (animationTick s).lastDescValid = s.lastDescValid ∧
    (animationTick s).battPct = s.battPct ∧ (animationTick s).timers = s.timers ∧
    (animationTick s).lpArmed = s.lpArmed ∧ (animationTick s).halted = s.halted ∧
    (animationTick s).haltSrc = s.haltSrc ∧ (animationTick s).shiftA = s.shiftA ∧
    (animationTick s).accelPrev = s.accelPrev ∧ (animationTick s).jerk = s.jerk ∧
    (animationTick s).inbox = s.inbox ∧ (animationTick s).line = s.line := by
  unfold animationTick
  cases h : s.animMode <;>
    simp only [tickStatic, tickBlink, tickPulse, tickRainbow, tickColorShift, tickClapToggle, tickClapPulse,
      tickWaveRainbow] <;>
    (try split) <;> simp [State.render, State.allHSV, h]

end Sys2Proof.Machine
end

