-- ==== Sys2Proof/Laws/PerInstr.lean ====
section
/-! SUPPORT. The families of facts about every instruction as syntax: one lemma per constructor of Instr. -/

set_option Elab.async false

namespace Sys2Proof.Laws.EncodedShape

/-- An instruction's encoding has 1 to 10 bytes (R90); a frame's first byte is a code of the instruction's own port and
gives the frame's length (R91, R105, R113). -/
def Statement (i : Instr) : Prop :=
  ∀ c : Cfg, 1 ≤ (encode c i).length ∧ (encode c i).length ≤ 10 ∧
    ((i.port = .event ∨ i.port = .timerBank ∨ i.port = .command) →
      ∀ code ∈ (encode c i).head?, portOfCode code = i.port ∧ (encode c i).length = frameLength code)

theorem nop : Statement .nop := by
  intro c; simp [encode, Instr.port, portOfCode, frameLength]

theorem tb : Statement .tb := by
  intro c; simp [encode, Instr.port, portOfCode, frameLength]

theorem btnDown (a : Byte) : Statement (.btnDown a) := by
  intro c; simp [encode, Instr.port, portOfCode, frameLength]

theorem btnUp (a : Byte) : Statement (.btnUp a) := by
  intro c; simp [encode, Instr.port, portOfCode, frameLength]

theorem accel (x : Half) (y : Half) (z : Half) : Statement (.accel x y z) := by
  intro c; simp [encode, Instr.port, toLE16, portOfCode, frameLength]

theorem linkUp : Statement .linkUp := by
  intro c; simp [encode, Instr.port, portOfCode, frameLength]

theorem linkDown : Statement .linkDown := by
  intro c; simp [encode, Instr.port, portOfCode, frameLength]

theorem linkCmd (mode : Byte) (red : Byte) (green : Byte) (blue : Byte) : Statement (.linkCmd mode red green blue) := by
  intro c; simp [encode, Instr.port, portOfCode, frameLength]

theorem bcast (ch : Byte) (payload : BitVec 63) : Statement (.bcast ch payload) := by
  intro c; simp [encode, Instr.port, toLE64, portOfCode, frameLength]

theorem bcastDrop : Statement .bcastDrop := by
  intro c; simp [encode, Instr.port, portOfCode, frameLength]

theorem batt (w : Half) : Statement (.batt w) := by
  intro c; simp [encode, Instr.port, toLE16, portOfCode, frameLength]

theorem ioFail (a : Byte) : Statement (.ioFail a) := by
  intro c; simp [encode, Instr.port, portOfCode, frameLength]

theorem groupSet (a : Byte) : Statement (.groupSet a) := by
  intro c; simp [encode, Instr.port, portOfCode, frameLength]

theorem xLong : Statement .xLong := by
  intro c; simp [encode, Instr.port, portOfCode, frameLength]

theorem xCool : Statement .xCool := by
  intro c; simp [encode, Instr.port, portOfCode, frameLength]

theorem xBatt : Statement .xBatt := by
  intro c; simp [encode, Instr.port, portOfCode, frameLength]

theorem xAdv : Statement .xAdv := by
  intro c; simp [encode, Instr.port, portOfCode, frameLength]

theorem xOff : Statement .xOff := by
  intro c; simp [encode, Instr.port, portOfCode, frameLength]

theorem xTick : Statement .xTick := by
  intro c; simp [encode, Instr.port, portOfCode, frameLength]

theorem waveStart : Statement .waveStart := by
  intro c; simp [encode, Instr.port, portOfCode, frameLength]

theorem sensorPwr (b : Byte) : Statement (.sensorPwr b) := by
  intro c; simp [encode, Instr.port, portOfCode, frameLength]

theorem radioAdvStart : Statement .radioAdvStart := by
  intro c; simp [encode, Instr.port, portOfCode, frameLength]

theorem radioAdvStop : Statement .radioAdvStop := by
  intro c; simp [encode, Instr.port, portOfCode, frameLength]

theorem radioDisconnect : Statement .radioDisconnect := by
  intro c; simp [encode, Instr.port, portOfCode, frameLength]

theorem radioStatus (n : Byte) (pct : Byte) : Statement (.radioStatus n pct) := by
  intro c; simp [encode, Instr.port, portOfCode, frameLength]

theorem radioSetGroup (group : Byte) (channel : Byte) : Statement (.radioSetGroup group channel) := by
  intro c; simp [encode, Instr.port, portOfCode, frameLength]

theorem storeGroup (group : Byte) : Statement (.storeGroup group) := by
  intro c; simp [encode, Instr.port, portOfCode, frameLength]

theorem platformOff : Statement .platformOff := by
  intro c; simp [encode, Instr.port, portOfCode, frameLength]

theorem ledDriverOff : Statement .ledDriverOff := by
  intro c; simp [encode, Instr.port, portOfCode, frameLength]

theorem inputIrqOff : Statement .inputIrqOff := by
  intro c; simp [encode, Instr.port, portOfCode, frameLength]

theorem battSampleReq : Statement .battSampleReq := by
  intro c; simp [encode, Instr.port, portOfCode, frameLength]

theorem fatalReport (src : Byte) : Statement (.fatalReport src) := by
  intro c; simp [encode, Instr.port, portOfCode, frameLength]

theorem modeStatic : Statement .modeStatic := by
  intro c; simp [encode, Instr.port]

theorem modeBlink : Statement .modeBlink := by
  intro c; simp [encode, Instr.port]

theorem modePulse : Statement .modePulse := by
  intro c; simp [encode, Instr.port]

theorem modeRainbow : Statement .modeRainbow := by
  intro c; simp [encode, Instr.port]

theorem modeColorShift : Statement .modeColorShift := by
  intro c; simp [encode, Instr.port]

theorem modeClapToggle : Statement .modeClapToggle := by
  intro c; simp [encode, Instr.port]

theorem modeClapPulse : Statement .modeClapPulse := by
  intro c; simp [encode, Instr.port]

theorem modeWaveRainbow : Statement .modeWaveRainbow := by
  intro c; simp [encode, Instr.port]

theorem codeZero : Statement .codeZero := by
  intro c; simp [encode, Instr.port, toLE16]

theorem codeShort : Statement .codeShort := by
  intro c; simp [encode, Instr.port, toLE16]

theorem codeLong : Statement .codeLong := by
  intro c; simp [encode, Instr.port, toLE16]

end Sys2Proof.Laws.EncodedShape
end

