-- ==== Sys2Proof/Laws/Run.lean ====
section
/-! SUPPORT. What fetching, counting a timer, the movement filter and running a script do, once. -/

namespace Sys2Proof.Machine

/-- Taking a frame changes nothing but the queue (R70). -/
theorem fetch_eq_some (s t : State) (a : Arrival) :
    fetch s = some (a, t) ↔ ∃ rest, s.inbox = a :: rest ∧ t = { s with inbox := rest } := by
  unfold fetch
  cases h : s.inbox with
  | nil => simp
  | cons b rest =>
    simp only [Option.some.injEq, Prod.mk.injEq, List.cons.injEq]
    constructor
    · rintro ⟨rfl, rfl⟩
      exact ⟨rest, ⟨rfl, rfl⟩, rfl⟩
    · rintro ⟨_, ⟨rfl, rfl⟩, rfl⟩
      exact ⟨rfl, rfl⟩

/-- A timer expires in a TB exactly when it is armed with at most one millisecond left (R138; log 9). -/
theorem Timer.expires_iff (x : Timer) : x.expires = (x.armed && decide (x.rem.toNat ≤ 1)) := by
  unfold Timer.expires Timer.remAfter
  congr 1
  rw [decide_eq_decide]
  split
  · rename_i h
    simp [h]
  · rename_i h
    constructor
    · intro h1
      have h2 : x.rem = 1#32 := by simpa using congrArg (· + 1#32) h1
      rw [h2]
      decide
    · intro h1
      have hne : x.rem.toNat ≠ 0 := fun hh => h (BitVec.eq_of_toNat_eq (by simpa using hh))
      have h2 : x.rem = 1#32 := BitVec.eq_of_toNat_eq (by simp; omega)
      rw [h2]
      decide

/-- Counting (R138): a timer that is off stays; one with more than a millisecond left loses one. -/
theorem Timer.count_more (x : Timer) (rep : Bool) (full : BitVec 32) (ha : x.armed = true) (h : 1 < x.rem.toNat) :
    x.count rep full = ⟨true, x.rem - 1#32⟩ := by
  have h0 : x.rem ≠ 0#32 := by
    intro hh
    rw [hh] at h
    simp at h
  have h1 : ¬ x.rem.toNat ≤ 1 := by omega
  simp [Timer.count, Timer.expires_iff, ha, h1, Timer.remAfter, h0]

/-- Counting (R138): a timer at its last millisecond reloads if it repeats and is disarmed if not. -/
theorem Timer.count_last (x : Timer) (rep : Bool) (full : BitVec 32) (ha : x.armed = true) (h : x.rem.toNat ≤ 1) :
    x.count rep full = if rep then ⟨true, full⟩ else Timer.idle := by
  simp [Timer.count, Timer.expires_iff, ha, h, Timer.idle]

theorem Timer.count_off (x : Timer) (rep : Bool) (full : BitVec 32) (ha : x.armed = false) : x.count rep full = x := by
  simp [Timer.count, ha]

/-- The filter writes the jerk registers, the previous sample, the Motion Flag and `T_COOL`, and nothing else (R241,
R242). -/
theorem detect_cases (s : State) :
    detect s = s ∨ detect s = { s with motionFlag := true } ∨
    (s.timers.cool.armed = false ∧ detect s = { s.start .cool with motionFlag := true }) := by
  unfold detect detectClap detectWave
  cases s.animMode <;> simp only <;> (try exact .inl trivial) <;> (try split) <;> simp_all

/-- A script is run one instruction after the other (R70, R74). -/
theorem runScript_cons {i : Instr} {rest : List Instr} {s t : State} (h : exec i s = .next t) :
    runScript (i :: rest) s = runScript rest t := by
  simp only [runScript, h]

theorem runScript_append : ∀ (a b : List Instr) (s t : State), runScript a s = .next t →
    runScript (a ++ b) s = runScript b t
  | [], _, s, t, h => by
    simp only [runScript, Host.Outcome.next.injEq] at h
    rw [h]
    rfl
  | i :: a, b, s, t, h => by
    simp only [List.cons_append, runScript] at h ⊢
    cases he : exec i s with
    | next u =>
      rw [he] at h
      exact runScript_append a b u t h
    | fault r => simp [he] at h
    | refused r => simp [he] at h

end Sys2Proof.Machine
end

