-- ==== Sys2Proof/Tests/Slice0.lean ====
section
/-! SUPPORT. The model's own tests: an ill-formed term for each check of WellFormed, every row's word from the tables of
30_encoding.md, vectors of 95_test_vectors.md (numbers from the spec, never from the model), and for each obligation
with hypotheses a state and operands that meet them. -/

set_option Elab.async false

open Sys2Proof Sys2Proof.Machine Sys2Proof.Claims

namespace Sys2Proof.Tests

/-! ## Helpers -/

/-- The next state of an outcome. -/
def nextOf : Host.Outcome State Fault Refusal → Option State
  | .next t => some t
  | .fault _ => none
  | .refused _ => none

theorem eq_next {o : Host.Outcome State Fault Refusal} {t : State} (h : nextOf o = some t) : o = .next t := by
  cases o <;> simp_all [nextOf]

/-- The state after one instruction, seen through `f`. -/
def after {α : Type} (i : Instr) (s : State) (f : State → α) : Option α := (nextOf (exec i s)).map f

/-- The reset state moved to an Operating State. -/
def stIn (o : OpState) : State := { State.reset with opState := o }

/-- The reset state with an Animation Mode and a configured colour. -/
def modeState (m : AnimMode) (r g b : Nat) : State :=
  { State.reset with animMode := m, cfg := Pixel.ofRGB (rgbOf r g b) }

/-- A press open in an Operating State. -/
def pressed (o : OpState) : State :=
  { stIn o with lpArmed := true, timers := { State.reset.timers with long := armed 1#32 } }

/-- What a test of an event looks at: the commands, the number of frames, the Operating State, the pixels' colours. -/
structure Seen where
  commands : List Frame
  frames : Nat
  state : OpState
  pixels : List RGB
deriving DecidableEq, Repr

/-- The view of a state that most event tests compare. -/
def seen (s : State) : Seen := ⟨s.cmdOut, s.waveOut.length, s.opState, s.px.map Pixel.rgb⟩

/-- Four pixels of one colour. -/
def four (r g b : Nat) : List RGB := List.replicate 4 (rgbOf r g b)

/-- The commands SENSOR_PWR b, WAVE_START. -/
def powerAndFrame (b : Byte) : List Frame := [[0x81#8, b], [0x80#8]]

/-! ## Well-formedness: the reference record passes; each check refuses a record of its own. -/

theorem test_reference_is_wellformed : CfgRef.WF := by decide +kernel

theorem test_wave_refused : ¬ { CfgRef with longTicks := 8 }.WaveOk := by decide +kernel
theorem test_wave_reset_time_refused : ¬ { CfgRef with resetCodes := 39 }.WaveOk := by decide +kernel
theorem test_pixels_refused : ¬ { CfgRef with nPixels := 0 }.PixelsOk := by decide +kernel
theorem test_periods_refused : ¬ { CfgRef with cooldownMs := 0#32 }.PeriodsOk := by decide +kernel
theorem test_thresholds_refused : ¬ { CfgRef with thWave := 8000 }.ThresholdsOk := by decide +kernel
theorem test_button_modes_refused :
    ¬ { CfgRef with buttonModes := CfgRef.buttonModes.set 6 ⟨.static, rgbOf 0 0 0⟩ }.ButtonModesOk := by decide +kernel
theorem test_sine_symmetric_refused :
    ¬ { CfgRef with sineLut := CfgRef.sineLut.set 1 1#8 }.SineSymmetric := by decide +kernel
theorem test_sine_monotone_refused :
    ¬ { CfgRef with sineLut := CfgRef.sineLut.set 64 0#8 }.SineMonotone := by decide +kernel
theorem test_sine_peak_refused :
    ¬ { CfgRef with sineLut := CfgRef.sineLut.set 128 254#8 }.SinePeak := by decide +kernel
theorem test_steps_refused : ¬ { CfgRef with shiftStep := 0#8 }.StepsOk := by decide +kernel
theorem test_battery_refused : ¬ { CfgRef with battRawFull := 512#16 }.BatteryOk := by decide +kernel
theorem test_baseline_adv_refused :
    ¬ { CfgRef with baselineAdv := ⟨.static, rgbOf 0 0 255⟩ }.BaselineAdvOk := by decide +kernel
theorem test_operands_refused :
    [Instr.sensorPwr 2#8, .radioStatus 2#8 0#8, .radioStatus 1#8 101#8, .radioSetGroup 6#8 2#8, .radioSetGroup 3#8 0#8,
      .storeGroup 6#8].map Instr.wf = List.replicate 6 false := by decide +kernel
theorem test_operands_admitted :
    [Instr.sensorPwr 1#8, .radioStatus 1#8 100#8, .radioSetGroup 5#8 1#8, .storeGroup 5#8].map Instr.wf =
      List.replicate 4 true := by decide +kernel

/-! ## Decoding: one word of every row, from R92, R93, R106, R96 and R108. -/

theorem test_event_words_decode :
    [[0x00#8], [0x01#8], [0x02#8, 0x00#8], [0x03#8, 0x01#8], [0x04#8, 0xD8#8, 0xDC#8, 0xCE#8, 0xFF#8, 0x80#8, 0x3E#8],
      [0x05#8], [0x06#8], [0x07#8, 0x09#8, 0x01#8, 0x02#8, 0x03#8],
      [0x08#8, 0x01#8, 0x41#8, 0x08#8, 0xE1#8, 0xFF#8, 0x7F#8, 0x00#8, 0x00#8, 0x00#8], [0x09#8],
      [0x0A#8, 0x64#8, 0x02#8], [0x0B#8, 0x03#8], [0x0C#8, 0x07#8]].map (fun f => (decode CfgRef .event f).toOption) =
    [some .nop, some .tb, some (.btnDown 0#8), some (.btnUp 1#8),
      some (.accel (BitVec.ofInt 16 (-9000)) (BitVec.ofInt 16 (-50)) 16000#16), some .linkUp, some .linkDown,
      some (.linkCmd 9#8 1#8 2#8 3#8), some (.bcast 1#8 0x7FFFE10841#63), some .bcastDrop, some (.batt 612#16),
      some (.ioFail 3#8), some (.groupSet 7#8)] := by decide +kernel

theorem test_expiry_words_decode :
    [[0x10#8], [0x11#8], [0x12#8], [0x13#8], [0x14#8], [0x15#8]].map (fun f => (decode CfgRef .timerBank f).toOption) =
    [some .xLong, some .xCool, some .xBatt, some .xAdv, some .xOff, some .xTick] := by decide +kernel

theorem test_command_words_decode :
    [[0x80#8], [0x81#8, 0x01#8], [0x82#8], [0x83#8], [0x84#8], [0x85#8, 0x01#8, 0x32#8], [0x86#8, 0x03#8, 0x01#8],
      [0x87#8, 0x03#8], [0x88#8], [0x89#8], [0x8A#8], [0x8B#8], [0x8C#8, 0x05#8]].map
        (fun f => (decode CfgRef .command f).toOption) =
    [some .waveStart, some (.sensorPwr 1#8), some .radioAdvStart, some .radioAdvStop, some .radioDisconnect,
      some (.radioStatus 1#8 50#8), some (.radioSetGroup 3#8 1#8), some (.storeGroup 3#8), some .platformOff,
      some .ledDriverOff, some .inputIrqOff, some .battSampleReq, some (.fatalReport 5#8)] := by decide +kernel

theorem test_mode_values_decode :
    [[0#8], [1#8], [2#8], [3#8], [4#8], [5#8], [6#8], [7#8], [8#8]].map
        (fun f => (decode CfgRef .animMode f).toOption) =
    [some .modeStatic, some .modeBlink, some .modePulse, some .modeRainbow, some .modeColorShift, some .modeClapToggle,
      some .modeClapPulse, some .modeWaveRainbow, none] := by decide +kernel

theorem test_duty_words_decode :
    [[0x00#8, 0x80#8], [0x08#8, 0x80#8], [0x10#8, 0x80#8], [0x09#8, 0x80#8], [0x08#8, 0x00#8]].map
        (fun f => (decode CfgRef .waveform f).toOption) =
    [some .codeZero, some .codeShort, some .codeLong, none, none] := by decide +kernel

/-- The frames of section 5 that are no event. -/
theorem test_malformed_and_reserved_frames :
    [[0x07#8, 0x02#8, 0xFF#8, 0x00#8], [0x01#8, 0x00#8], [0x15#8], [0x0D#8], [0x7F#8, 0x01#8, 0x02#8], [0xFF#8],
      []].map (fun f => (decode CfgRef .event f).toOption) = List.replicate 7 none := by decide +kernel

/-- Bit 63 of a payload is dropped (section 5). -/
theorem test_payload_top_bit_dropped :
    (decode CfgRef .event
      [0x08#8, 0x01#8, 0x41#8, 0x08#8, 0xC2#8, 0x64#8, 0x19#8, 0x00#8, 0x00#8, 0x9C#8]).toOption =
      some (.bcast 1#8 0x1C00001964C20841#63) := by decide +kernel

/-- The table's words: 8 bits for a frame's code, 16 for a duty-cycle word. -/
theorem test_table_words :
    [decodeTableWord 8 0x01, decodeTableWord 8 0x15, decodeTableWord 8 0x80, decodeTableWord 16 0x8008,
      decodeTableWord 40 0x80_00_FF_02_07, decodeTableWord 8 0x16] =
    [some .tb, some .xTick, some .waveStart, some .codeShort, some (.linkCmd 2#8 255#8 0#8 128#8), none] := by
  decide +kernel

theorem test_first_step_runs_the_placed_word :
    (nextOf (step (State.reset.withFetchWord 24 0x02640A))).map (fun t => (t.battPct.val, t.inbox)) = some (50, []) := by
  decide +kernel

/-! ## The Colour Engine (section 2) -/

theorem test_hsv_to_rgb :
    [(⟨0#8, 0#8, 0#8⟩ : HSV), ⟨77#8, 0#8, 128#8⟩, ⟨42#8, 255#8, 255#8⟩, ⟨43#8, 255#8, 255#8⟩, ⟨86#8, 255#8, 255#8⟩,
      ⟨128#8, 255#8, 255#8⟩, ⟨171#8, 255#8, 255#8⟩, ⟨213#8, 255#8, 255#8⟩, ⟨255#8, 255#8, 255#8⟩, ⟨100#8, 200#8, 150#8⟩,
      ⟨200#8, 1#8, 255#8⟩, ⟨250#8, 100#8, 100#8⟩].map hsvToRgb =
    [rgbOf 0 0 0, rgbOf 128 128 128, rgbOf 255 252 0, rgbOf 254 255 0, rgbOf 0 255 0, rgbOf 0 255 252, rgbOf 0 3 255,
      rgbOf 246 0 255, rgbOf 255 0 15, rgbOf 32 150 71, rgbOf 254 253 255, rgbOf 100 60 67] := by decide +kernel

theorem test_rgb_to_hsv :
    [rgbOf 0 0 0, rgbOf 128 128 128, rgbOf 0 255 0, rgbOf 0 0 255, rgbOf 255 0 255, rgbOf 255 0 1, rgbOf 255 0 128,
      rgbOf 200 100 48, rgbOf 8 16 24, rgbOf 255 254 254, rgbOf 0 255 252].map rgbToHsv =
    [⟨0#8, 0#8, 0#8⟩, ⟨0#8, 0#8, 128#8⟩, ⟨85#8, 255#8, 255#8⟩, ⟨171#8, 255#8, 255#8⟩, ⟨213#8, 255#8, 255#8⟩,
      ⟨0#8, 255#8, 255#8⟩, ⟨235#8, 255#8, 255#8⟩, ⟨14#8, 193#8, 200#8⟩, ⟨150#8, 170#8, 24#8⟩, ⟨0#8, 1#8, 255#8⟩,
      ⟨127#8, 255#8, 255#8⟩] := by decide +kernel

theorem test_easing_table :
    [0#8, 2#8, 4#8, 8#8, 16#8, 24#8, 32#8, 64#8, 96#8, 127#8, 128#8, 129#8, 192#8, 224#8, 255#8].map CfgRef.sine =
      [0#8, 0#8, 1#8, 2#8, 10#8, 21#8, 37#8, 127#8, 218#8, 255#8, 255#8, 255#8, 127#8, 37#8, 0#8] := by decide +kernel

/-! ## The codec (section 3) and the encoder (section 4) -/

theorem test_pack :
    [pack 3#5 (rgbOf 255 255 255), pack 2#5 (rgbOf 200 100 50), pack 6#5 (rgbOf 0 0 255), pack 0#5 (rgbOf 8 16 24),
      pack 31#5 (rgbOf 7 3 7)] = [0x3FFFF#21, 0x2CB26#21, 0x6001F#21, 0x00883#21, 0x1F0000#21] := by decide +kernel

theorem test_unpack :
    [unpack 0x3FFFF#21, unpack 0x2CB26#21, unpack 0x1FFFFF#21] =
      [⟨3#5, rgbOf 248 252 248⟩, ⟨2#5, rgbOf 200 100 48⟩, ⟨31#5, rgbOf 248 252 248⟩] := by decide +kernel

theorem test_compose_and_extract :
    compose 0x3FFFF#21 0x6001F#21 0x2CB26#21 = 0x0B2C98C003E3FFFF#63 ∧
    (List.range 3).map (extractDesc 0x0B2C98C003E3FFFF#63) = [0x3FFFF#21, 0x6001F#21, 0x2CB26#21] ∧
    toLE64 0x0B2C98C003E3FFFF#63 = [0xFF#8, 0xFF#8, 0xE3#8, 0x03#8, 0xC0#8, 0x98#8, 0x2C#8, 0x0B#8] := by
  decide +kernel

theorem test_routing :
    ([0, 1, 2, 3, 4, 5] : List (Fin 6)).map (fun g => (channelOf g, slotOf g)) =
      [(0, 0), (0, 1), (0, 2), (1, 0), (1, 1), (1, 2)] := by decide +kernel

theorem test_encode_byte :
    encodeByte CfgRef 0xA5#8 =
      [0x8010#16, 0x8008#16, 0x8010#16, 0x8008#16, 0x8008#16, 0x8010#16, 0x8008#16, 0x8010#16] := by decide +kernel

/-- The worked frame of section 4. -/
theorem test_encode_frame :
    let w := encodePixels CfgRef
      [Pixel.ofRGB (rgbOf 1 2 3), Pixel.ofRGB (rgbOf 0 0 0), Pixel.ofRGB (rgbOf 255 255 255),
        Pixel.ofRGB (rgbOf 0x12 0x34 0x56)]
    w.length = 144 ∧ w.take 48 = List.replicate 48 0x8000#16 ∧
    (w.drop 48).take 8 = [0x8008#16, 0x8008#16, 0x8008#16, 0x8008#16, 0x8008#16, 0x8008#16, 0x8010#16, 0x8008#16] ∧
    (w.drop 56).take 8 = List.replicate 7 0x8008#16 ++ [0x8010#16] ∧
    (w.drop 72).take 24 = List.replicate 24 0x8008#16 ∧ (w.drop 96).take 24 = List.replicate 24 0x8010#16 ∧
    w.drop 136 = [0x8008#16, 0x8010#16, 0x8008#16, 0x8010#16, 0x8008#16, 0x8010#16, 0x8010#16, 0x8008#16] := by
  decide +kernel

/-! ## The events (section 8) -/

theorem test_nop : after .nop (stIn .advertising) seen = some ⟨[], 0, .advertising, four 0 0 0⟩ := by decide +kernel

theorem test_btn_down :
    after (.btnDown 0#8) State.reset (fun t => (t.lpArmed, t.timers.long, t.cmdOut)) = some (true, armed 3000#32, []) ∧
    after (.btnDown 1#8) State.reset (fun t => (t.lpArmed, t.timers.long)) = some (false, off) := by decide +kernel

theorem test_btn_up_cycles_in_idle :
    after (.btnUp 0#8) (pressed .idle) (fun t => (seen t, t.buttonMode.val, t.lpArmed, t.timers.long)) =
      some (⟨powerAndFrame 0#8, 1, .idle, four 255 0 0⟩, 1, false, off) := by decide +kernel

theorem test_btn_up_leaves_advertising :
    after (.btnUp 0#8) (pressed .advertising) (fun t => (seen t, t.buttonMode.val)) =
      some (⟨[0x83#8] :: powerAndFrame 0#8, 1, .idle, four 0 0 0⟩, 0) := by decide +kernel

/-- F3 and F7. -/
theorem test_accel_clap :
    after (.accel 8001#16 0#16 0#16) (modeState .clapToggle 255 255 0)
      (fun t => (t.jerk.x, t.accelPrev.x, t.motionFlag, t.timers.cool)) =
        some (8001#16, 8001#16, true, armed 500#32) ∧
    after (.accel 9000#16 0#16 0#16)
      { modeState .clapToggle 255 255 0 with timers := { State.reset.timers with cool := armed 1#32 } }
      (fun t => (t.jerk.x, t.motionFlag, t.timers.cool)) = some (9000#16, false, armed 1#32) := by decide +kernel

/-- F13 and F14: differences wrap. -/
theorem test_accel_wave_wraps :
    after (.accel 32767#16 0#16 0#16)
      { modeState .waveRainbow 255 0 255 with accelPrev := ⟨BitVec.ofInt 16 (-2001), 0#16, BitVec.ofInt 16 (-1)⟩ }
      (fun t => (t.jerk, t.motionFlag, t.timers.cool)) =
        some (⟨BitVec.ofInt 16 (-30768), 0#16, 1#16⟩, true, off) ∧
    after (.accel (BitVec.ofInt 16 (-32768)) 0#16 0#16)
      { modeState .waveRainbow 255 0 255 with accelPrev := ⟨32767#16, 0#16, 0#16⟩ }
      (fun t => (t.jerk, t.motionFlag)) = some (⟨1#16, 0#16, 0#16⟩, false) := by decide +kernel

theorem test_link_up :
    after .linkUp { stIn .advertising with timers := { State.reset.timers with adv := armed 7#32 } }
      (fun t => (seen t, t.timers.adv)) =
        some (⟨[0x83#8] :: powerAndFrame 0#8, 1, .linkConnected, four 0 255 0⟩, off) := by decide +kernel

theorem test_link_down :
    after .linkDown (stIn .linkConnected) seen = some ⟨powerAndFrame 0#8, 1, .idle, four 0 0 0⟩ := by decide +kernel

theorem test_link_cmd :
    after (.linkCmd 1#8 8#8 16#8 24#8) (stIn .linkConnected) (fun t => (seen t, t.animMode)) =
      some (⟨powerAndFrame 0#8, 1, .linkConnected, four 8 16 24⟩, .blink) ∧
    after (.linkCmd 5#8 0#8 0#8 0#8) (stIn .linkConnected) (fun t => (t.sensorActive, t.cmdOut)) =
      some (true, powerAndFrame 1#8) := by decide +kernel

theorem test_bcast :
    after (.bcast 0#8 0x883#63) (stIn .advertising) (fun t => (seen t, t.lastDesc, t.lastDescValid)) =
      some (⟨[0x83#8] :: powerAndFrame 0#8, 1, .broadcastReceiving, four 8 16 24⟩, 0x883#21, true) ∧
    after (.bcast 1#8 0x883#63) (stIn .idle) seen = some ⟨[], 0, .idle, four 0 0 0⟩ := by decide +kernel

theorem test_bcast_drop :
    after .bcastDrop { stIn .broadcastReceiving with lastDescValid := true } (fun t => (seen t, t.lastDescValid)) =
      some (⟨powerAndFrame 0#8, 1, .idle, four 0 0 0⟩, false) := by decide +kernel

theorem test_batt_percent :
    [612#16, 512#16, 712#16, 65535#16, 700#16, 0#16].map (fun w => (battPercent CfgRef w).val) =
      [50, 0, 100, 100, 94, 0] := by decide +kernel

theorem test_batt :
    after (.batt 612#16) (stIn .linkConnected) (fun t => (t.battPct.val, t.cmdOut)) =
      some (50, [[0x85#8, 0x01#8, 0x32#8]]) ∧
    after (.batt 511#16) (stIn .advertising) (fun t => (seen t, t.timers)) =
      some (⟨[0x83#8] :: powerAndFrame 0#8, 1, .shuttingDown, four 255 0 0⟩,
        ⟨off, off, off, off, armed 2000#32, armed 25#32⟩) := by decide +kernel

theorem test_io_fail :
    after (.ioFail 5#8) (stIn .linkConnected) (fun t => (seen t, t.halted, t.haltSrc, t.timers)) =
      some (⟨[[0x80#8], [0x8C#8, 0x05#8]], 1, .linkConnected, four 0 0 0⟩, true, 5#8, ⟨off, off, off, off, off, off⟩) ∧
    after (.ioFail 5#8) { State.reset with halted := true, haltSrc := 1#8 } (fun t => (t.haltSrc, t.cmdOut)) =
      some (1#8, []) := by decide +kernel

theorem test_group_set :
    after (.groupSet 4#8) { State.reset with lastDescValid := true } (fun t => (t.cmdOut, t.activeGroup.val, t.lastDescValid)) =
      some ([[0x87#8, 0x03#8], [0x86#8, 0x03#8, 0x01#8]], 3, false) ∧
    after (.groupSet 7#8) State.reset (fun t => (t.cmdOut, t.activeGroup.val)) = some ([], 0) := by decide +kernel

theorem test_tb_counts :
    after .tb State.reset (fun t => (t.timers, t.cmdOut)) =
      some (⟨off, off, armed 59999#32, off, off, armed 24#32⟩, []) := by decide +kernel

/-- X3, its last millisecond: the long press comes before the tick of the same TB. -/
theorem test_tb_long_press_before_tick :
    after .tb { pressed .idle with timers := { State.reset.timers with long := armed 1#32, tick := armed 1#32 } }
      (fun t => (seen t, t.timers.adv, t.timers.tick)) =
      some (⟨[[0x81#8, 0#8], [0x82#8], [0x80#8], [0x80#8]], 2, .advertising, four 0 0 1⟩, armed 30000#32, armed 25#32) := by
  decide +kernel

/-! ## The expiries -/

theorem test_x_long :
    after .xLong (pressed .linkConnected) (fun t => (seen t, t.lpArmed)) =
      some (⟨powerAndFrame 0#8, 1, .idle, four 0 0 0⟩, false) ∧
    after .xLong (pressed .broadcastReceiving) (fun t => (seen t, t.lpArmed)) =
      some (⟨[], 0, .broadcastReceiving, four 0 0 0⟩, false) := by decide +kernel

theorem test_x_cool : after .xCool (stIn .idle) seen = some ⟨[], 0, .idle, four 0 0 0⟩ := by decide +kernel

theorem test_x_batt :
    after .xBatt (stIn .idle) State.cmdOut = some [[0x8B#8]] ∧ after .xBatt (stIn .shuttingDown) State.cmdOut = some [] := by
  decide +kernel

theorem test_x_adv :
    after .xAdv (stIn .advertising) seen = some ⟨[0x83#8] :: powerAndFrame 0#8, 1, .idle, four 0 0 0⟩ := by
  decide +kernel

theorem test_x_off :
    after .xOff (stIn .shuttingDown) (fun t => (seen t, t.timers)) =
      some (⟨[[0x89#8], [0x8A#8], [0x88#8]], 0, .poweredOff, four 0 0 0⟩, ⟨off, off, off, off, off, off⟩) := by
  decide +kernel

theorem test_x_tick_in_wave_rainbow_is_silent :
    after .xTick (modeState .waveRainbow 255 0 255) (fun t => (t.cmdOut, t.waveOut)) = some ([], []) := by decide +kernel

/-! ## The ticks (section 7), by the rows of the modes -/

theorem test_tick_static :
    after .modeStatic { State.reset with px := List.replicate 4 (Pixel.ofRGB (rgbOf 255 0 0)) } seen =
      some ⟨[[0x80#8]], 1, .idle, four 255 0 0⟩ := by decide +kernel

theorem test_tick_blink :
    after .modeBlink { modeState .blink 0 255 0 with blinkPhase := 120#8 } (fun t => (t.blinkPhase, t.px.map Pixel.rgb)) =
      some (128#8, four 0 0 0) ∧
    after .modeBlink { modeState .blink 0 255 0 with blinkPhase := 248#8 } (fun t => (t.blinkPhase, t.px.map Pixel.rgb)) =
      some (0#8, four 3 255 0) := by decide +kernel

theorem test_tick_pulse :
    after .modePulse { modeState .pulse 0 0 255 with pulsePhase := 60#8 } (fun t => (t.pulsePhase, t.px.map Pixel.rgb)) =
      some (64#8, four 0 1 127) := by decide +kernel

theorem test_tick_rainbow :
    after .modeRainbow State.reset (fun t => (t.rainbowPhase, t.px.map Pixel.rgb)) =
      some (2#8, [rgbOf 255 12 0, rgbOf 117 255 0, rgbOf 0 249 255, rgbOf 132 0 255]) := by decide +kernel

theorem test_tick_color_shift :
    after .modeColorShift { State.reset with shiftA := ⟨0#8, 255#8, 255#8⟩, shiftPhase := 95#8 }
      (fun t => (t.shiftPhase, t.px.map Pixel.rgb)) = some (96#8, four 0 255 138) := by decide +kernel

theorem test_tick_clap_toggle :
    after .modeClapToggle { modeState .clapToggle 255 255 0 with motionFlag := true }
      (fun t => (t.clapHue, t.motionFlag, t.px.map Pixel.rgb)) = some (32#8, false, four 255 192 0) := by decide +kernel

theorem test_tick_clap_pulse :
    after .modeClapPulse { modeState .clapPulse 0 255 255 with cpBright := 23#8 } (fun t => (t.cpBright, t.px.map Pixel.rgb)) =
      some (16#8, four 0 16 15) ∧
    after .modeClapPulse { modeState .clapPulse 0 255 255 with cpBright := 255#8 } (fun t => (t.cpBright, t.px.map Pixel.rgb)) =
      some (247#8, four 0 247 244) := by decide +kernel

theorem test_tick_wave_rainbow :
    after .modeWaveRainbow { modeState .waveRainbow 255 0 255 with motionFlag := true }
      (fun t => (t.waveHue, t.motionFlag, t.px.map Pixel.rgb)) = some (16#8, false, four 255 96 0) := by decide +kernel

/-! ## The commands and the code words -/

theorem test_commands_append :
    [Instr.waveStart, .sensorPwr 1#8, .radioAdvStart, .radioAdvStop, .radioDisconnect, .radioStatus 1#8 50#8,
      .radioSetGroup 3#8 1#8, .storeGroup 3#8, .platformOff, .ledDriverOff, .inputIrqOff, .battSampleReq,
      .fatalReport 5#8].map (fun i => after i State.reset State.cmdOut) =
    [some [[0x80#8]], some [[0x81#8, 1#8]], some [[0x82#8]], some [[0x83#8]], some [[0x84#8]],
      some [[0x85#8, 1#8, 50#8]], some [[0x86#8, 3#8, 1#8]], some [[0x87#8, 3#8]], some [[0x88#8]], some [[0x89#8]],
      some [[0x8A#8]], some [[0x8B#8]], some [[0x8C#8, 5#8]]] := by decide +kernel

/-- Section 4: 16, 8 and 0 high ticks of 25. -/
theorem test_code_words_play :
    after .codeLong State.reset State.line = some (List.replicate 16 true ++ List.replicate 9 false) ∧
    after .codeShort State.reset State.line = some (List.replicate 8 true ++ List.replicate 17 false) ∧
    after .codeZero State.reset State.line = some (List.replicate 25 false) := by decide +kernel

/-! ## Witnesses: for each obligation with hypotheses, a state and operands that meet them, clause by clause -/

/-- `frames` waiting at a port. -/
def waiting (p : Port) (bs : Frame) : State := { State.reset with inbox := [⟨p, bs⟩] }

theorem witness_EveryRowDecodesToItself : CfgRef.WF := test_reference_is_wellformed

theorem witness_DecodedEventIsItsFrame :
    decode CfgRef .event [0x0C#8, 0x05#8] = .ok (.groupSet 5#8) ∧ (∀ ch P, Instr.groupSet 5#8 ≠ .bcast ch P) ∧
    decode CfgRef .event [0x08#8, 0#8, 0#8, 0#8, 0#8, 0#8, 0#8, 0#8, 0#8, 0xFF#8] = .ok (.bcast 0#8 (0x7F#63 <<< 56)) :=
  ⟨rfl, nofun, rfl⟩

/-- A frame too long, a frame too short, the first reserved code, and the empty frame. -/
theorem witness_MalformedFrameChangesNothing :
    ∀ bs ∈ [[0x01#8, 0x00#8], [0x07#8, 0x02#8, 0xFF#8, 0x00#8], [0x0D#8], []],
      (waiting .event bs).inbox = ⟨.event, bs⟩ :: [] ∧
        (∀ code, bs.head? = some code → eventLengths[code.toNat]? ≠ some bs.length) := by decide +kernel

theorem witness_StepRunsTheDecodedRow :
    (waiting .event [0x01#8]).inbox = ⟨.event, [0x01#8]⟩ :: [] ∧
    decode (waiting .event [0x01#8]).config .event [0x01#8] = .ok .tb := ⟨rfl, rfl⟩

theorem witness_StepWaitsForAnEvent : State.reset.inbox = [] := rfl

/-- One above CODE_SHORT, one above CODE_LONG, and no polarity bit. -/
theorem witness_ForeignDutyCodeIsRefused :
    ∀ lo hi, [lo, hi] ∈ [[0x09#8, 0x80#8], [0x11#8, 0x80#8], [0x08#8, 0x00#8]] →
      (waiting .waveform [lo, hi]).inbox = ⟨.waveform, [lo, hi]⟩ :: [] ∧
      lo.toNat + 256 * hi.toNat ≠ 0x8000 ∧
      lo.toNat + 256 * hi.toNat ≠ (0x8000 + (waiting .waveform [lo, hi]).config.shortTicks) % 65536 ∧
      lo.toNat + 256 * hi.toNat ≠ (0x8000 + (waiting .waveform [lo, hi]).config.longTicks) % 65536 := by
  intro lo hi h
  simp only [List.mem_cons, List.cons.injEq, and_true, List.not_mem_nil, or_false] at h
  obtain ⟨rfl, rfl⟩ | ⟨rfl, rfl⟩ | ⟨rfl, rfl⟩ := h <;> decide +kernel

theorem witness_EveryEventHasASuccessor : (waiting .event [0xFF#8]).inbox = ⟨.event, [0xFF#8]⟩ :: [] := rfl

theorem witness_DeadAndDeafIgnoreEvents :
    Instr.port .tb = .event ∧ { State.reset with halted := true }.halted = true ∧
    (stIn .poweredOff).opState = .poweredOff ∧ (stIn .shuttingDown).opState = .shuttingDown ∧
    Instr.port .linkUp = .event ∧ Instr.linkUp ≠ .tb ∧ (∀ a, Instr.linkUp ≠ .ioFail a) :=
  ⟨rfl, rfl, rfl, rfl, rfl, nofun, nofun⟩

/-- Every Operating State but the last two is live; a halted, a powered-off and a shutting-down state are not. -/
theorem witness_live_and_deaf :
    (∀ o ∈ [OpState.idle, .advertising, .linkConnected, .broadcastReceiving], Live (stIn o) ∧ Live (pressed o)) ∧
    ¬ Live (stIn .poweredOff) ∧ ¬ Live (stIn .shuttingDown) ∧ ¬ Live { State.reset with halted := true } := by
  unfold Live; decide +kernel

theorem witness_alive_and_dead :
    Alive State.reset ∧ Alive (stIn .shuttingDown) ∧ ¬ Alive (stIn .poweredOff) ∧
    ¬ Alive { State.reset with halted := true } := by
  unfold Alive; decide +kernel

theorem witness_ButtonDownArmsTheLongPress :
    Live State.reset ∧ 0#8 = State.reset.config.buttonPin ∧ 1#8 ≠ State.reset.config.buttonPin ∧
    ¬ Live (stIn .shuttingDown) := by
  unfold Live; decide +kernel

theorem witness_ButtonUpIsAShortPressOrSwallowed :
    (∀ o ∈ [OpState.idle, .advertising, .linkConnected, .broadcastReceiving],
      Live (pressed o) ∧ 0#8 = (pressed o).config.buttonPin ∧ (pressed o).lpArmed = true ∧ (pressed o).opState = o) ∧
    (0 : Fin 9).val = ({ pressed .idle with buttonMode := 8 }.buttonMode.val + 1) % 9 ∧
    (8 : Fin 9).val = ({ pressed .idle with buttonMode := 7 }.buttonMode.val + 1) % 9 ∧
    State.reset.lpArmed = false ∧ 1#8 ≠ State.reset.config.buttonPin := by
  unfold Live; decide +kernel

theorem witness_LinkEventsMoveTheState :
    (∀ o ∈ [OpState.advertising, .linkConnected, .broadcastReceiving], Live (stIn o) ∧ (stIn o).opState = o) ∧
    (stIn .idle).opState ≠ .advertising ∧ (stIn .idle).opState ≠ .linkConnected ∧
    (stIn .idle).opState ≠ .broadcastReceiving := by
  unfold Live; decide +kernel

/-- The last mode and the first value that is none. -/
theorem witness_LinkCommandAppliesInLinkConnected :
    Live (stIn .linkConnected) ∧ (stIn .linkConnected).opState = .linkConnected ∧
    modes[(7#8).toNat]? = some .waveRainbow ∧ modes[(0#8).toNat]? = some .static ∧ 7 < (8#8).toNat ∧
    (stIn .idle).opState ≠ .linkConnected := by
  unfold Live; decide +kernel

/-- Group 0 takes slot 0 of channel 0 and group 5 slot 2 of channel 1; descriptors of mode 7 and of mode 8; a descriptor
equal to the last one. -/
theorem witness_BroadcastAppliesTheActiveGroup :
    (0x7FFFF#21).toNat = (0x7FFFF#63).toNat / 2 ^ (21 * (State.reset.activeGroup.val % 3)) % 2 ^ 21 ∧
    Live State.reset ∧ (0#8).toNat = State.reset.activeGroup.val / 3 ∧
    modes[(0x7FFFF#21).toNat / 65536]? = some .waveRainbow ∧ State.reset.lastDescValid = false ∧
    (0x80000#21).toNat = (0x80000#63).toNat / 2 ^ (21 * (State.reset.activeGroup.val % 3)) % 2 ^ 21 ∧
    7 < (0x80000#21).toNat / 65536 ∧
    (1#8).toNat ≠ State.reset.activeGroup.val / 3 ∧
    (1#21).toNat = (0x40000000000#63).toNat / 2 ^ (21 * ({ State.reset with activeGroup := 5 }.activeGroup.val % 3)) % 2 ^ 21 ∧
    (1#8).toNat = { State.reset with activeGroup := 5 }.activeGroup.val / 3 ∧
    (0#21).toNat = (0#63).toNat / 2 ^ (21 * ({ stIn .broadcastReceiving with lastDescValid := true }.activeGroup.val % 3)) %
      2 ^ 21 ∧
    { stIn .broadcastReceiving with lastDescValid := true }.lastDescValid = true ∧
    0#21 = { stIn .broadcastReceiving with lastDescValid := true }.lastDesc ∧
    Live { stIn .broadcastReceiving with lastDescValid := true } ∧
    1#21 ≠ { stIn .broadcastReceiving with lastDescValid := true }.lastDesc := by
  unfold Live; decide +kernel

/-- Raw 511 and 512, the two sides of the shutdown threshold, and the percentages 0 and 100 at their ends. -/
theorem witness_BatterySampleIsMeasured :
    Live State.reset ∧ Live (stIn .linkConnected) ∧ (stIn .linkConnected).opState = .linkConnected ∧
    State.reset.opState ≠ .linkConnected ∧
    (511#16).toNat < State.reset.config.battShutdownRaw.toNat ∧
    State.reset.config.battShutdownRaw.toNat ≤ (512#16).toNat ∧
    (∀ w p, (w, p) ∈ [(511#16, (0 : Fin 101)), (512#16, 0), (711#16, 99), (712#16, 100), (65535#16, 100)] →
      (p.val : Int) = min 100 (max 0 (Int.tdiv (((w.toNat : Int) - State.reset.config.battRawEmpty.toNat) * 100)
        ((State.reset.config.battRawFull.toNat : Int) - State.reset.config.battRawEmpty.toNat)))) := by
  refine ⟨by unfold Live; decide +kernel, by unfold Live; decide +kernel, rfl, by decide +kernel, by decide +kernel,
    by decide +kernel, ?_⟩
  intro w p h
  simp only [List.mem_cons, Prod.mk.injEq, List.not_mem_nil, or_false] at h
  obtain ⟨rfl, rfl⟩ | ⟨rfl, rfl⟩ | ⟨rfl, rfl⟩ | ⟨rfl, rfl⟩ | ⟨rfl, rfl⟩ := h <;> decide +kernel

theorem witness_PeripheralFailureHalts : Alive (stIn .shuttingDown) ∧ ¬ Alive (stIn .poweredOff) := by
  unfold Alive; decide +kernel

/-- Groups 1 and 6 are the ends of the legal range, 0 and 7 the first values outside. -/
theorem witness_GroupSetSelectsStoresAndTunes :
    Live State.reset ∧ (1#8).toNat = (0 : Fin 6).val + 1 ∧ (6#8).toNat = (5 : Fin 6).val + 1 ∧ (0#8).toNat < 1 ∧
    6 < (7#8).toNat := by
  unfold Live; decide +kernel

/-- Magnitudes 8000 and 8001 in a clap mode, 2000 and 2001 in WaveRainbow, and a running cooldown. -/
theorem witness_AccelerometerSampleIsFiltered :
    Live (modeState .colorShift 0 0 0) ∧ (modeState .colorShift 0 0 0).animMode = .colorShift ∧
    Live (modeState .clapPulse 0 0 0) ∧ (modeState .clapPulse 0 0 0).animMode ∈ [AnimMode.clapToggle, .clapPulse] ∧
    (modeState .clapPulse 0 0 0).config.thClap < magnitude (jerked (modeState .clapPulse 0 0 0) 8001#16 0#16 0#16).jerk ∧
    (modeState .clapPulse 0 0 0).timers.cool.armed = false ∧
    magnitude (jerked (modeState .clapPulse 0 0 0) 8000#16 0#16 0#16).jerk ≤ (modeState .clapPulse 0 0 0).config.thClap ∧
    { State.reset with timers := { State.reset.timers with cool := armed 1#32 } }.timers.cool.armed = true ∧
    Live (modeState .waveRainbow 0 0 0) ∧ (modeState .waveRainbow 0 0 0).animMode = .waveRainbow ∧
    (modeState .waveRainbow 0 0 0).config.thWave < magnitude (jerked (modeState .waveRainbow 0 0 0) 0#16 2001#16 0#16).jerk ∧
    magnitude (jerked (modeState .waveRainbow 0 0 0) 0#16 2000#16 0#16).jerk ≤
      (modeState .waveRainbow 0 0 0).config.thWave := by
  unfold Live; decide +kernel

theorem witness_LongPressExpiryActsByState :
    (∀ o ∈ [OpState.idle, .advertising, .linkConnected, .broadcastReceiving], Live (stIn o) ∧ (stIn o).opState = o) ∧
    ¬ Live (stIn .shuttingDown) := by
  unfold Live; decide +kernel

theorem witness_BatteryAndAdvertisingExpiries :
    Live (stIn .advertising) ∧ (stIn .advertising).opState = .advertising ∧ (stIn .idle).opState ≠ .advertising ∧
    ¬ Live (stIn .shuttingDown) := by
  unfold Live; decide +kernel

theorem witness_PowerOffExpiryEndsTheRun :
    (stIn .shuttingDown).opState = .shuttingDown ∧ (stIn .shuttingDown).halted = false ∧
    (stIn .idle).opState ≠ .shuttingDown ∧ { stIn .shuttingDown with halted := true }.halted = true := by decide +kernel

/-- The first and the last mode. -/
theorem witness_TickExpiryRunsTheActiveMode :
    modes[0]? = some State.reset.animMode ∧ modeRows[0]? = some .modeStatic ∧
    modes[7]? = some (modeState .waveRainbow 0 0 0).animMode ∧ modeRows[7]? = some .modeWaveRainbow ∧
    Alive State.reset ∧ ¬ Alive (stIn .poweredOff) := by
  unfold Alive; decide +kernel

/-- The bank of the reset state, and one in which every timer stands at its last millisecond. -/
theorem witness_TimebaseCountsThenFires :
    Alive State.reset ∧ Counting State.reset ∧
    Counting { State.reset with timers := ⟨armed 1#32, armed 1#32, armed 1#32, armed 1#32, armed 1#32, armed 1#32⟩ } ∧
    ¬ Alive { State.reset with halted := true } := by
  unfold Alive Counting
  refine ⟨by decide +kernel, fun t => ?_, fun t => ?_, by decide +kernel⟩ <;> cases t <;> decide +kernel

/-- Two milliseconds left: the last value at which nothing expires. -/
theorem witness_QuietTimebaseOnlyCounts :
    Alive { State.reset with timers := ⟨armed 2#32, off, armed 2#32, off, off, armed 2#32⟩ } ∧
    ∀ t : TimerId,
      ({ State.reset with timers := ⟨armed 2#32, off, armed 2#32, off, off, armed 2#32⟩ }.timers.get t).armed = true →
      1 < ({ State.reset with timers := ⟨armed 2#32, off, armed 2#32, off, off, armed 2#32⟩ }.timers.get t).rem.toNat := by
  unfold Alive
  refine ⟨by decide +kernel, fun t => ?_⟩
  cases t <;> decide +kernel

/-- TB 5000 of program P5. -/
theorem witness_PowerOffPrecedesTheTick :
    let s := { stIn .shuttingDown with timers := ⟨off, off, off, off, armed 1#32, armed 1#32⟩ }
    s.halted = false ∧ s.opState = .shuttingDown ∧ s.timers.long.armed = false ∧ s.timers.batt.armed = false ∧
    s.timers.adv.armed = false ∧ s.timers.off = armed 1#32 ∧ s.timers.tick = armed 1#32 := by decide +kernel

theorem witness_StaticBlinkPulseTicks :
    Ticks .modeStatic .modeStatic .static State.reset ∧ Ticks .xTick .modeStatic .static State.reset ∧
    Ticks .xTick .modeBlink .blink (modeState .blink 0 255 0) ∧
    Ticks .xTick .modePulse .pulse (modeState .pulse 0 0 255) := by
  unfold Ticks Alive; decide +kernel

theorem witness_RainbowAndColorShiftTicks :
    Ticks .xTick .modeRainbow .rainbow (modeState .rainbow 255 255 255) ∧
    Ticks .xTick .modeColorShift .colorShift { modeState .colorShift 255 0 0 with shiftPhase := 255#8 } ∧
    0#8 = { modeState .colorShift 255 0 0 with shiftPhase := 255#8 }.config.sineLut.get
      (stepped 255#8 { modeState .colorShift 255 0 0 with shiftPhase := 255#8 }.config.shiftStep).toFin := by
  unfold Ticks Alive; decide +kernel

/-- With and without motion, and the brightness at the floor and one decay above it. -/
theorem witness_MotionModeTicks :
    (∀ b ∈ [true, false],
      { modeState .clapToggle 0 0 0 with motionFlag := b }.motionFlag = b ∧
      Ticks .xTick .modeClapToggle .clapToggle { modeState .clapToggle 0 0 0 with motionFlag := b } ∧
      Ticks .xTick .modeClapPulse .clapPulse { modeState .clapPulse 0 0 0 with motionFlag := b } ∧
      Ticks .xTick .modeWaveRainbow .waveRainbow { modeState .waveRainbow 0 0 0 with motionFlag := b }) ∧
    16#8 = BitVec.ofNat 8 (max ((16#8).toNat - State.reset.config.cpDecay.toNat) State.reset.config.cpMin.toNat) ∧
    17#8 = BitVec.ofNat 8 (max ((25#8).toNat - State.reset.config.cpDecay.toNat) State.reset.config.cpMin.toNat) := by
  unfold Ticks Alive; decide +kernel

theorem witness_CodeWordPlaysOneSlot : State.reset.config.WF := test_reference_is_wellformed

theorem witness_BoundaryInvariantHoldsAtReset : CfgRef.WF := test_reference_is_wellformed

theorem encoded_frame (c : Cfg) (px : List Pixel) (h : px.length = c.nPixels) :
    (encodePixels c px).length = c.waveLength ∧ ∀ w ∈ encodePixels c px, isDutyCode c w :=
  ⟨by rw [encodePixels_length, h, Cfg.waveLength], encodePixels_codes c px⟩

/-- The invariant in a form that can be evaluated; `shown` are the Pixel Frames handed over. -/
theorem inv_of_checks (s : State) (shown : List (List Pixel)) (h0 : s.config.WF)
    (h1 : s.px.length = s.config.nPixels ∧ s.waveBuf = encodePixels s.config s.px ∧ s.lpArmed = s.timers.long.armed)
    (h2 : (s.halted = false → (s.timers.adv.armed = true ↔ s.opState = .advertising)) ∧
      (s.halted = false → (s.timers.off.armed = true ↔ s.opState = .shuttingDown)))
    (h3 : s.lastDescValid = true → s.opState = .broadcastReceiving ∧
      entryOfDesc s.lastDesc = some ⟨s.animMode, s.cfg.rgb⟩ ∧ s.cfg = Pixel.ofRGB s.cfg.rgb)
    (h4 : ∀ t ∈ timerOrder, (s.dead = true → (s.timers.get t).armed = false) ∧
      ((s.timers.get t).armed = false → (s.timers.get t).rem = 0#32) ∧
      ((s.timers.get t).armed = true → (s.timers.get t).rem ≠ 0#32 ∧ (s.timers.get t).rem ≤ period s.config t))
    (h5 : (s.opState = .shuttingDown →
      s.timers.long.armed = false ∧ s.timers.cool.armed = false ∧ s.timers.batt.armed = false) ∧
      (s.dead = false → s.timers.tick.armed = true) ∧ (s.deaf = false → s.timers.batt.armed = true))
    (h6 : s.cmdOut.count [0x80#8] = s.waveOut.length ∧
      s.waveOut = shown.map (encodePixels s.config) ∧ (∀ px ∈ shown, px.length = s.config.nPixels) ∧
      (s.waveOut = [] ∨ s.waveOut.getLast? = some s.waveBuf) ∧ s.config.cpMin ≤ s.cpBright ∧
      ∀ a ∈ s.inbox, a.port = .event) : Inv s := by
  have ht : ∀ t : TimerId, t ∈ timerOrder := by intro t; cases t <;> decide
  refine ⟨h0, h1.1, h1.2.1, h1.2.2, h2.1, h2.2, h3, fun d t => (h4 t (ht t)).1 d, h5.1, fun t => (h4 t (ht t)).2.1,
    fun t => (h4 t (ht t)).2.2, h5.2.1, h5.2.2, h6.1, ?_, h6.2.2.2.1, h6.2.2.2.2.1, h6.2.2.2.2.2⟩
  intro f hf
  rw [h6.2.1, List.mem_map] at hf
  obtain ⟨px, hpx, rfl⟩ := hf
  exact encoded_frame _ _ (h6.2.2.1 px hpx)

/-- The reset state with a frame waiting. -/
theorem inv_waiting : Inv (waiting .event [0x08#8, 0#8, 0x83#8, 0x08#8, 0#8, 0#8, 0#8, 0#8, 0#8, 0#8]) := by
  apply inv_of_checks _ [] test_reference_is_wellformed <;> decide +kernel

/-- Four pixels of one colour, as `SetAnim` writes them. -/
def fourPixels (r g b : Nat) : List Pixel := List.replicate 4 (Pixel.ofRGB (rgbOf r g b))

/-- Reset, then BCAST 0, 0x883 (section 8): a valid descriptor, one frame handed over. -/
def broadcasting : State :=
  { State.reset with
    opState := .broadcastReceiving, cfg := Pixel.ofRGB (rgbOf 8 16 24), px := fourPixels 8 16 24
    waveBuf := encodePixels CfgRef (fourPixels 8 16 24), waveOut := [encodePixels CfgRef (fourPixels 8 16 24)]
    cmdOut := powerAndFrame 0#8, lastDesc := 0x883#21, lastDescValid := true }

theorem inv_broadcasting : Inv broadcasting := by
  apply inv_of_checks _ [fourPixels 8 16 24] test_reference_is_wellformed <;> decide +kernel

/-- Reset, then BATT 0 (section 8), and reset, then IO_FAIL 5: no item of the invariant stands unused. -/
theorem inv_shutting_down_and_halted :
    Inv { State.reset with
      opState := .shuttingDown, cfg := Pixel.ofRGB (rgbOf 255 0 0), px := fourPixels 255 0 0
      waveBuf := encodePixels CfgRef (fourPixels 255 0 0), waveOut := [encodePixels CfgRef (fourPixels 255 0 0)]
      cmdOut := powerAndFrame 0#8, timers := ⟨off, off, off, off, armed 2000#32, armed 25#32⟩ } ∧
    Inv { State.reset with
      halted := true, haltSrc := 5#8, timers := ⟨off, off, off, off, off, off⟩
      waveOut := [State.reset.waveBuf], cmdOut := [[0x80#8], [0x8C#8, 5#8]] } := by
  constructor
  · apply inv_of_checks _ [fourPixels 255 0 0] test_reference_is_wellformed <;> decide +kernel
  · apply inv_of_checks _ [fourPixels 0 0 0] test_reference_is_wellformed <;> decide +kernel

theorem witness_EveryStepKeepsTheBoundaryInvariant :
    Inv (waiting .event [0x08#8, 0#8, 0x83#8, 0x08#8, 0#8, 0#8, 0#8, 0#8, 0#8, 0#8]) ∧
    step (waiting .event [0x08#8, 0#8, 0x83#8, 0x08#8, 0#8, 0#8, 0#8, 0#8, 0#8, 0#8]) = .next broadcasting :=
  ⟨inv_waiting, eq_next (by decide +kernel)⟩

/-- A reachable state in BroadcastReceiving with a valid descriptor. -/
theorem witness_ReachableStatesKeepTheBoundaryFacts : Reachable broadcasting :=
  .step _ _ (.deliver _ [[0x08#8, 0#8, 0x83#8, 0x08#8, 0#8, 0#8, 0#8, 0#8, 0#8, 0#8]]
    (.reset CfgRef test_reference_is_wellformed)) witness_EveryStepKeepsTheBoundaryInvariant.2

theorem witness_ShuttingDownIsAbsorbing :
    Instr.port .linkUp = .event ∧ Instr.port .xOff = .timerBank ∧
    exec .linkUp (stIn .shuttingDown) = .next (stIn .shuttingDown) ∧ (stIn .shuttingDown).opState = .shuttingDown ∧
    exec .tb (stIn .poweredOff) = .next (stIn .poweredOff) ∧ (stIn .poweredOff).opState = .poweredOff ∧
    (∃ t, exec .xOff (stIn .shuttingDown) = .next t) := by
  refine ⟨rfl, rfl, ?_, rfl, ?_, rfl, ⟨_, rfl⟩⟩ <;>
    simp [exec, execLinkUp, execTb, stIn, State.deaf, State.dead]

theorem witness_OutputsGrowAndConfigurationStays : exec .waveStart State.reset = .next State.reset.render := rfl

/-- The wrap of a counter by each of the three ways: the mode's row, X_TICK, and a TB at `T_TICK`'s last millisecond. -/
theorem witness_OnlyTicksMoveTheCounters :
    let s := { modeState .blink 0 255 0 with
      blinkPhase := 248#8, timers := ⟨off, off, armed 2#32, off, off, armed 1#32⟩ }
    (∃ t, exec .modeBlink s = .next t ∧ counterOf .blink t ≠ counterOf .blink s) ∧
    (∃ t, exec .xTick s = .next t ∧ counterOf .blink t ≠ counterOf .blink s) ∧
    (∃ t, exec .tb s = .next t ∧ counterOf .blink t ≠ counterOf .blink s) :=
  ⟨⟨_, rfl, by decide +kernel⟩, ⟨_, rfl, by decide +kernel⟩, ⟨_, rfl, by decide +kernel⟩⟩

/-- A press at the last of the nine modes. -/
theorem witness_OnlyShortPressInIdleMovesTheButtonMode :
    Instr.port (.btnUp 0#8) = .event ∧
    ∃ t, exec (.btnUp 0#8) { pressed .idle with buttonMode := 8 } = .next t ∧
      t.buttonMode ≠ { pressed .idle with buttonMode := 8 }.buttonMode :=
  ⟨rfl, _, rfl, by decide +kernel⟩

/-- The TB of P5 and X3 in which the long press and the tick both render. -/
theorem witness_FramesPerEventAreBounded :
    Instr.port .tb = .event ∧ Inv broadcasting ∧
    Inv { pressed .idle with timers := { State.reset.timers with long := armed 1#32, tick := armed 1#32 } } := by
  refine ⟨rfl, inv_broadcasting, ?_⟩
  apply inv_of_checks _ [] test_reference_is_wellformed <;> decide +kernel

/-- 2999 and 3000 milliseconds, the two sides of the threshold, and the invariant in Idle and in BroadcastReceiving. -/
theorem witness_EachPressActsOnce :
    Live State.reset ∧ State.reset.config.WF ∧ 2999 < 3000 ∧ 3000 ≤ 3000 ∧ Inv State.reset ∧
    Live broadcasting ∧ broadcasting.config.WF ∧ Inv broadcasting := by
  refine ⟨by unfold Live; decide +kernel, test_reference_is_wellformed, by decide, by decide, ?_,
    by unfold Live; decide +kernel, test_reference_is_wellformed, inv_broadcasting⟩
  apply inv_of_checks _ [] test_reference_is_wellformed <;> decide +kernel

/-- The last millisecond of a press in each live state (`r` of the statement, in Advertising with `T_ADV` running):
X_LONG acts, and Idle and Advertising change places. -/
theorem test_tb_long_press_by_state :
    [OpState.idle, .advertising, .linkConnected, .broadcastReceiving].map (fun o =>
      after .tb { pressed o with
        timers := ⟨armed 1#32, off, armed 2#32, ⟨decide (o = .advertising), 2#32⟩, off, armed 2#32⟩ } State.opState) =
    [some .advertising, some .idle, some .idle, some .broadcastReceiving] := by decide +kernel

theorem witness_NinePressesReturnToClapToggle :
    let s := { State.reset with buttonMode := 6, animMode := .clapToggle }
    s.halted = false ∧ s.opState = .idle ∧ s.buttonMode = 6 ∧ s.config.buttonModes = buttonModesReference ∧
    0 ≤ 9 ∧ 9 ≤ 9 := ⟨rfl, rfl, rfl, rfl, by decide, by decide⟩

/-- A clap mode with a running cooldown. -/
def cooling (full : BitVec 32) : State :=
  { modeState .clapPulse 0 0 0 with timers := { State.reset.timers with cool := armed full } }

/-- 499 and 500 milliseconds of a cooldown of 500, and the shortest cooldown. -/
theorem witness_CooldownGatesTheClapTier :
    Live (cooling 500#32) ∧ (cooling 500#32).timers.cool = armed 500#32 ∧ 500#32 ≠ 0#32 ∧ 499 < (500#32).toNat ∧
    500 = (500#32).toNat ∧
    Live (cooling 1#32) ∧ (cooling 1#32).timers.cool = armed 1#32 ∧ 1#32 ≠ 0#32 ∧ 0 < (1#32).toNat ∧
    (cooling 500#32).animMode ∈ [AnimMode.clapToggle, .clapPulse] := by
  unfold Live; decide +kernel

/-- A grey, and the six regions at hue 43, the first of region 1. -/
theorem witness_HsvToRgbFollowsTheSixRegions :
    (0#8).toNat = (255#8).toNat * (255 - (255#8).toNat) / 256 ∧
    (254#8).toNat = (255#8).toNat * (255 - (255#8).toNat * ((43#8).toNat % 43 * 6) / 256) / 256 ∧
    (0#8).toNat = (255#8).toNat * (255 - (255#8).toNat * (255 - (43#8).toNat % 43 * 6) / 256) / 256 ∧ 255#8 ≠ 0#8 ∧
    (254#8).toNat = (255#8).toNat * (255 - (0#8).toNat) / 256 := by decide +kernel

/-- Black, the grey 1, and (255, 0, 1), whose hue is 0 − 0 before the wrap. -/
theorem witness_RgbToHsvFollowsTheDominantChannel :
    (0 = max (rgbOf 0 0 0).r.toNat (max (rgbOf 0 0 0).g.toNat (rgbOf 0 0 0).b.toNat)) ∧
    (1 = max (rgbOf 1 1 1).r.toNat (max (rgbOf 1 1 1).g.toNat (rgbOf 1 1 1).b.toNat) ∧ 0 = 255 * 0 / 1) ∧
    (255 = max (rgbOf 255 0 1).r.toNat (max (rgbOf 255 0 1).g.toNat (rgbOf 255 0 1).b.toNat) ∧
      255 = 255 - min (rgbOf 255 0 1).r.toNat (min (rgbOf 255 0 1).g.toNat (rgbOf 255 0 1).b.toNat) ∧
      255 = 255 * 255 / 255 ∧
      (0 : Int) = Int.tdiv (43 * (((rgbOf 255 0 1).g.toNat : Int) - (rgbOf 255 0 1).b.toNat)) (255 : Nat)) := by
  decide +kernel

theorem witness_HsvToRgbKeepsTheValue : (⟨77#8, 0#8, 0#8⟩ : HSV).s = 0#8 ∧ (⟨77#8, 0#8, 0#8⟩ : HSV).v = 0#8 := ⟨rfl, rfl⟩

theorem witness_OnlyGreysHaveNoSaturation :
    (rgbToHsv (rgbOf 128 128 128)).s = 0#8 ∧ (rgbOf 128 128 128).r = (rgbOf 128 128 128).g ∧
    (rgbOf 128 128 128).g = (rgbOf 128 128 128).b ∧ (rgbToHsv (rgbOf 255 254 254)).s ≠ 0#8 := by decide +kernel

theorem witness_EncodedFrameShape :
    CfgRef.WF ∧ (List.replicate 4 (Pixel.ofRGB (rgbOf 0 0 0))).length = CfgRef.nPixels ∧
    (∀ p ∈ List.replicate 4 (Pixel.ofRGB (rgbOf 0 0 0)), p.rgb = ⟨0#8, 0#8, 0#8⟩) ∧
    (List.replicate 4 (Pixel.ofRGB (rgbOf 255 255 255))).length = CfgRef.nPixels ∧
    (∀ p ∈ List.replicate 4 (Pixel.ofRGB (rgbOf 255 255 255)), p.rgb = ⟨255#8, 255#8, 255#8⟩) :=
  ⟨test_reference_is_wellformed, by decide +kernel, by decide +kernel, by decide +kernel, by decide +kernel⟩

/-- The last bit of the last pixel and the last code of the prefix. -/
theorem witness_EveryBitHasItsIndex :
    (List.replicate 4 (Pixel.ofRGB (rgbOf 1 2 3)))[3]? = some (Pixel.ofRGB (rgbOf 1 2 3)) ∧ 7 ≤ 7 ∧ 0 ≤ 7 ∧
    47 < CfgRef.resetCodes := by decide +kernel

/-- The last quiescent tick, the first tick after the frame, and the last tick of a slot. -/
theorem witness_LineOfAFrame :
    CfgRef.WF ∧ (List.replicate 4 (Pixel.ofRGB (rgbOf 1 2 3))).length = CfgRef.nPixels ∧
    1199 < CfgRef.resetCodes * CfgRef.slotTicks ∧
    (CfgRef.resetCodes + 24 * CfgRef.nPixels) * CfgRef.slotTicks ≤ 3600 ∧ 24 < CfgRef.slotTicks ∧
    (encodePixels CfgRef (List.replicate 4 (Pixel.ofRGB (rgbOf 1 2 3))))[54]? =
      some (BitVec.ofNat 16 (0x8000 + if true then CfgRef.longTicks else CfgRef.shortTicks)) ∧
    ([0x8010#16] : List Code)[24 / CfgRef.slotTicks]? = some 0x8010#16 ∧
    ([0x8010#16] : List Code).length * CfgRef.slotTicks ≤ 25 :=
  ⟨test_reference_is_wellformed, by decide +kernel, by decide +kernel, by decide +kernel, by decide +kernel,
    by decide +kernel, by decide +kernel, by decide +kernel⟩

/-- Two playbacks of one code, begun at ticks 10 and 40: ticks 9, 35, 39 and 65 fall outside both (between them too), and
ticks 34 and 40 inside the first and the second alone. -/
theorem witness_PortLineOutsideOverlap :
    let a : Nat × List Code := (10, [0x8010#16])
    let b : Nat × List Code := (40, [0x8008#16])
    (∀ n ∈ [9, 35, 39, 65], ∀ p ∈ [a, b], ¬ Playing CfgRef p n) ∧ (∀ p ∈ ([] : List (Nat × List Code)), ¬ Playing CfgRef p 0) ∧
    (([a, b] = [] ++ a :: [b]) ∧ Playing CfgRef a 34 ∧ ∀ q ∈ ([] ++ [b] : List (Nat × List Code)), ¬ Playing CfgRef q 34) ∧
    (([a, b] = [a] ++ b :: []) ∧ Playing CfgRef b 40 ∧ ∀ q ∈ ([a] ++ [] : List (Nat × List Code)), ¬ Playing CfgRef q 40) := by
  unfold Playing; decide +kernel

/-- Tick 39 lies between the frames; tick 47 is the last high tick of a short code begun at 40. -/
theorem test_port_line :
    [9, 10, 25, 26, 39, 40, 47, 48].map (portLine CfgRef [(10, [0x8010#16]), (40, [0x8008#16])]) =
      [false, true, true, false, false, true, true, false] := by decide +kernel

end Sys2Proof.Tests
end

section
/-! PROOFS. The rules R2 and R41 (obligation O39). `OutputsGrow s t` is what one row may do to the configuration and to
the two output traces. Each shared operation, each handler and each tick rule carries it along; the proofs follow the
definitions, and `exec_outputsGrow` puts the 43 rows together. -/

namespace Sys2Proof.Machine

/-- `t` comes after `s`: the same configuration (R2), and traces that begin with those of `s` (R41). -/
structure OutputsGrow (s t : State) : Prop where
  config : t.config = s.config
  cmdOut : s.cmdOut <+: t.cmdOut
  waveOut : s.waveOut <+: t.waveOut

namespace OutputsGrow

variable {s t u : State}

/-! The relation and the shapes a meaning is built from. -/

theorem refl (s : State) : OutputsGrow s s := ⟨rfl, List.prefix_rfl, List.prefix_rfl⟩

theorem trans (h : OutputsGrow s t) (h' : OutputsGrow t u) : OutputsGrow s u :=
  ⟨h'.config.trans h.config, h.cmdOut.trans h'.cmdOut, h.waveOut.trans h'.waveOut⟩

/-- A write of other fields only. For a record update the three equations hold by `rfl`. -/
theorem write (h : OutputsGrow s t) (hconfig : u.config = t.config := by rfl) (hcmd : u.cmdOut = t.cmdOut := by rfl)
    (hwave : u.waveOut = t.waveOut := by rfl) : OutputsGrow s u :=
  ⟨hconfig.trans h.config, hcmd ▸ h.cmdOut, hwave ▸ h.waveOut⟩

theorem ite {c : Prop} [Decidable c] (ht : OutputsGrow s t) (hu : OutputsGrow s u) :
    OutputsGrow s (if c then t else u) := by
  split
  · exact ht
  · exact hu

theorem foldl {α : Type} {f : State → α → State} (hf : ∀ s a, OutputsGrow s (f s a)) (l : List α) (s : State) :
    OutputsGrow s (l.foldl f s) := by
  induction l generalizing s with
  | nil => exact refl s
  | cons a l ih => exact (hf s a).trans (ih (f s a))

/-- A row that answers `u` has no other next state. -/
theorem of_next (h : (.next u : Host.Outcome State Fault Refusal) = .next t) (hu : OutputsGrow s u) :
    OutputsGrow s t := by
  cases h
  exact hu

/-! The shared operations. Only `emit` (R105) and the hand-off (R224) touch a trace, and both append. -/

theorem emit (h : OutputsGrow s t) (cmd : Instr) : OutputsGrow s (t.emit cmd) :=
  h.trans ⟨rfl, List.prefix_append _ _, List.prefix_rfl⟩

theorem handOver (h : OutputsGrow s t) : OutputsGrow s t.handOver :=
  h.trans ⟨rfl, List.prefix_rfl, List.prefix_append _ _⟩

theorem start (h : OutputsGrow s t) (i : TimerId) : OutputsGrow s (t.start i) := h.write

theorem cancel (h : OutputsGrow s t) (i : TimerId) : OutputsGrow s (t.cancel i) := h.write

theorem paint (h : OutputsGrow s t) (f : Nat → Pixel) : OutputsGrow s (t.paint f) := h.write

theorem render (h : OutputsGrow s t) : OutputsGrow s t.render := h.handOver.emit .waveStart

theorem paint_render (h : OutputsGrow s t) (f : Nat → Pixel) : OutputsGrow s (t.paint f).render := (h.paint f).render

theorem setSensor (h : OutputsGrow s t) (b : Bool) : OutputsGrow s (t.setSensor b) := emit h.write _

theorem setAnim (h : OutputsGrow s t) (e : ModeEntry) : OutputsGrow s (t.setAnim e) := paint_render h.write _

theorem applyConfig (h : OutputsGrow s t) (e : ModeEntry) : OutputsGrow s (t.applyConfig e) :=
  (h.setSensor (needsSensor e.mode)).setAnim e

theorem exitEffect (h : OutputsGrow s t) : OutputsGrow s t.exitEffect :=
  ite ((h.emit .radioAdvStop).cancel .adv) h

theorem entryEffect (h : OutputsGrow s t) (new : OpState) : OutputsGrow s (t.entryEffect new) := by
  cases new with
  | idle => exact h.applyConfig _
  | advertising => exact (((h.setSensor false).emit .radioAdvStart).setAnim _).start .adv
  | linkConnected => exact h.applyConfig _
  | broadcastReceiving => exact h
  | shuttingDown =>
    have hquiesce : OutputsGrow s t.quiesce := h.write
    exact (hquiesce.applyConfig _).start .off
  | poweredOff => exact h

theorem transition (h : OutputsGrow s t) (new : OpState) : OutputsGrow s (t.transition new) :=
  (h.exitEffect.entryEffect new).write

theorem halt (h : OutputsGrow s t) (src : Byte) : OutputsGrow s (t.halt src) := by
  have hlatch : OutputsGrow s (t.latchHalt src) := h.write
  exact (hlatch.paint_render _).emit (.fatalReport src)

end OutputsGrow

/-! The tick rules (R200 to R207). -/

theorem tickBlink_outputsGrow (s : State) : OutputsGrow s (tickBlink s) :=
  .paint_render (.write (.refl s)) _

theorem tickPulse_outputsGrow (s : State) : OutputsGrow s (tickPulse s) :=
  .paint_render (.write (.refl s)) _

theorem tickRainbow_outputsGrow (s : State) : OutputsGrow s (tickRainbow s) :=
  .paint_render (.write (.refl s)) _

theorem tickColorShift_outputsGrow (s : State) : OutputsGrow s (tickColorShift s) :=
  .paint_render (.write (.refl s)) _

theorem tickClapToggle_outputsGrow (s : State) : OutputsGrow s (tickClapToggle s) :=
  .ite (.paint_render (.write (.refl s)) _) (OutputsGrow.refl s).render

theorem tickClapPulse_outputsGrow (s : State) : OutputsGrow s (tickClapPulse s) :=
  .paint_render (.write (.refl s)) _

theorem tickWaveRainbow_outputsGrow (s : State) : OutputsGrow s (tickWaveRainbow s) :=
  .ite (.paint_render (.write (.refl s)) _) (.refl s)

theorem animationTick_outputsGrow (s : State) : OutputsGrow s (animationTick s) := by
  unfold animationTick
  cases s.animMode with
  | static => exact (OutputsGrow.refl s).render
  | blink => exact tickBlink_outputsGrow s
  | pulse => exact tickPulse_outputsGrow s
  | rainbow => exact tickRainbow_outputsGrow s
  | colorShift => exact tickColorShift_outputsGrow s
  | clapToggle => exact tickClapToggle_outputsGrow s
  | clapPulse => exact tickClapPulse_outputsGrow s
  | waveRainbow => exact tickWaveRainbow_outputsGrow s

/-! The actions of the events. -/

theorem shortPress_outputsGrow (s : State) : OutputsGrow s (shortPress s) := by
  unfold shortPress
  split
  · exact .applyConfig (.write (.refl s)) _
  · exact (OutputsGrow.refl s).transition .idle
  all_goals exact .refl s -- the four states in which a short press does nothing

theorem longPress_outputsGrow (s : State) : OutputsGrow s (longPress s) := by
  have hlp : OutputsGrow s { s with lpArmed := false } := (OutputsGrow.refl s).write
  unfold longPress
  refine .ite (.refl s) ?_
  dsimp only
  split
  · exact hlp.transition .advertising
  · exact hlp.transition .idle
  · exact hlp.transition .idle
  all_goals exact hlp -- the three states in which a long press only clears `lp_armed`

theorem detect_outputsGrow (s : State) : OutputsGrow s (detect s) := by
  obtain h | h | ⟨_, h⟩ := detect_cases s <;> rw [h] <;> exact (OutputsGrow.refl s).write

theorem applyBroadcast_outputsGrow (s : State) (d : BitVec 21) (e : ModeEntry) :
    OutputsGrow s (applyBroadcast s d e) :=
  .write (.applyConfig (.ite ((OutputsGrow.refl s).transition .broadcastReceiving) (.refl s)) e)

theorem sampleBattery_outputsGrow (s : State) (w : Half) : OutputsGrow s (sampleBattery s w) := by
  have hpct : OutputsGrow s { s with battPct := battPercent s.config w } := (OutputsGrow.refl s).write
  exact .ite (hpct.transition .shuttingDown) (.ite (hpct.emit _) hpct)

theorem selectGroup_outputsGrow (s : State) (g : Fin 6) : OutputsGrow s (selectGroup s g) :=
  .emit (.emit (.write (.refl s)) _) _

theorem powerOff_outputsGrow (s : State) : OutputsGrow s (powerOff s) :=
  .ite (.refl s) (((OutputsGrow.refl s).emit .ledDriverOff).emit .inputIrqOff |>.emit .platformOff).write

theorem expire_outputsGrow (i : TimerId) (s : State) : OutputsGrow s (expire i s) := by
  cases i with
  | long => exact longPress_outputsGrow s
  | cool => exact .refl s
  | batt => exact .ite (.refl s) ((OutputsGrow.refl s).emit .battSampleReq)
  | adv => exact .ite ((OutputsGrow.refl s).transition .idle) (.refl s)
  | off => exact powerOff_outputsGrow s
  | tick => exact .ite (.refl s) (animationTick_outputsGrow s)

theorem fireIfExpired_outputsGrow (before : Timers) (s : State) (i : TimerId) :
    OutputsGrow s (fireIfExpired before s i) :=
  .ite (expire_outputsGrow i s) (.refl s)

/-! The events whose meaning is more than a gate before an action. -/

theorem execTb_outputsGrow {s t : State} (h : execTb s = .next t) : OutputsGrow s t := by
  have hcount : OutputsGrow s s.countTimers := (OutputsGrow.refl s).write
  have hfire := OutputsGrow.foldl (fireIfExpired_outputsGrow s.timers) timerOrder s.countTimers
  exact .of_next h (.ite (.refl s) (hcount.trans hfire))

theorem execLinkCmd_outputsGrow {mode red green blue : Byte} {s t : State}
    (h : execLinkCmd mode red green blue s = .next t) : OutputsGrow s t := by
  refine .of_next h (.ite (.refl s) (.ite (.refl s) ?_))
  split
  · exact (OutputsGrow.refl s).applyConfig _
  · exact .refl s

theorem execBcast_outputsGrow {ch : Byte} {payload : BitVec 63} {s t : State}
    (h : execBcast ch payload s = .next t) : OutputsGrow s t := by
  refine .of_next h (.ite (.refl s) (.ite (.refl s) ?_))
  dsimp only
  split
  · exact .refl s
  · exact .ite (.refl s) (applyBroadcast_outputsGrow s _ _)

theorem execGroupSet_outputsGrow {a : Byte} {s t : State} (h : execGroupSet a s = .next t) : OutputsGrow s t := by
  refine .of_next h (.ite (.refl s) ?_)
  split
  · exact selectGroup_outputsGrow s _
  · exact .refl s

/-- Every row of the opcode table. -/
theorem exec_outputsGrow (i : Instr) (s t : State) (h : exec i s = .next t) : OutputsGrow s t := by
  have self : OutputsGrow s s := .refl s
  cases i with
  | nop => exact .of_next h self
  | tb => exact execTb_outputsGrow h
  | btnDown a => exact .of_next h (.ite self (.ite self self.write))
  | btnUp a =>
    have hcancel : OutputsGrow s { s.cancel .long with lpArmed := false } := self.write
    exact .of_next h (.ite self (.ite self (.ite self (hcancel.trans (shortPress_outputsGrow _)))))
  | accel x y z =>
    have hjerk : OutputsGrow s (updateJerk s x y z) := self.write
    exact .of_next h (.ite self (hjerk.trans (detect_outputsGrow _)))
  | linkUp => exact .of_next h (.ite self (.ite (self.transition .linkConnected) self))
  | linkDown => exact .of_next h (.ite self (.ite (self.transition .idle) self))
  | linkCmd mode red green blue => exact execLinkCmd_outputsGrow h
  | bcast ch payload => exact execBcast_outputsGrow h
  | bcastDrop => exact .of_next h (.ite self (.ite (self.transition .idle) self))
  | batt w => exact .of_next h (.ite self (sampleBattery_outputsGrow s w))
  | ioFail a => exact .of_next h (.ite self (self.halt a))
  | groupSet a => exact execGroupSet_outputsGrow h
  | xLong | xCool | xBatt | xAdv | xOff | xTick => exact .of_next h (expire_outputsGrow _ s)
  | waveStart => exact .of_next h self.render
  | sensorPwr b => exact .of_next h (.emit self.write _)
  | radioAdvStart | radioAdvStop | radioDisconnect | radioStatus n pct | radioSetGroup group channel
  | storeGroup group | platformOff | ledDriverOff | inputIrqOff | battSampleReq | fatalReport src =>
    exact .of_next h (self.emit _)
  | modeStatic => exact .of_next h self.render
  | modeBlink => exact .of_next h (tickBlink_outputsGrow s)
  | modePulse => exact .of_next h (tickPulse_outputsGrow s)
  | modeRainbow => exact .of_next h (tickRainbow_outputsGrow s)
  | modeColorShift => exact .of_next h (tickColorShift_outputsGrow s)
  | modeClapToggle => exact .of_next h (tickClapToggle_outputsGrow s)
  | modeClapPulse => exact .of_next h (tickClapPulse_outputsGrow s)
  | modeWaveRainbow => exact .of_next h (tickWaveRainbow_outputsGrow s)
  | codeZero | codeShort | codeLong => exact .of_next h self.write

/-- Settles O39: every row is built from operations that keep the configuration and at most append to the traces. -/
theorem outputsGrowAndConfigurationStays : Obligations.OutputsGrowAndConfigurationStays := by
  intro i s t h
  obtain ⟨hconfig, hcmd, hwave⟩ := exec_outputsGrow i s t h
  exact ⟨hconfig, hcmd, hwave⟩

end Sys2Proof.Machine
end

section
/-! PROOFS. The invariant of the event boundary (R43; obligations O35, O36, O37). Inside a TB the invariant does not
hold as it stands: phase 1 has counted the timers and disarmed some, and their expiry rules have not run yet.
`InvDue due s` is the invariant with the list `due` of these expiries; at an event boundary the list is empty
(`inv_iff`). It has a part that every primitive operation keeps (`Steady`), a part that says which timers run in the
current phase of operation (`Control`), and item 5 of R43 (`ShownDesc`). -/

namespace Sys2Proof.Machine

open Claims (Live Alive)

/-! Not dead and not deaf (R132). -/

theorem State.dead_eq_false_iff (s : State) : s.dead = false ↔ Alive s := by
  simp [State.dead, Alive]

theorem State.deaf_eq_false_iff (s : State) : s.deaf = false ↔ Live s := by
  simp [State.deaf, State.dead, Live, and_assoc]

theorem alive_of_live {s : State} (h : Live s) : Alive s := ⟨h.1, h.2.1⟩

/-- A block that is not dead is shutting down or live. -/
theorem closing_or_live {s : State} (h : Alive s) : s.opState = .shuttingDown ∨ Live s := by
  obtain ⟨hhalted, hop⟩ := h
  by_cases hclosing : s.opState = .shuttingDown
  · exact .inl hclosing
  · exact .inr ⟨hhalted, hop, hclosing⟩

theorem live_transition {s : State} {new : OpState} (h : Live s) (hoff : new ≠ .poweredOff := by nofun)
    (hdown : new ≠ .shuttingDown := by nofun) : Live (s.transition new) := by
  obtain ⟨-, -, -, -, -, -, hhalted, -⟩ := s.transition_frame new
  exact ⟨hhalted.trans h.1, hoff, hdown⟩

/-! The timer bank: how much an armed timer may hold (R33, R136 to R138). -/

/-- A timer that is off holds 0 (U7); an armed one has between one millisecond and its period left. -/
def TimerOk (full : BitVec 32) (x : Timer) : Prop :=
  if x.armed then x.rem ≠ 0#32 ∧ x.rem ≤ full else x.rem = 0#32

/-- Every timer of the bank holds what it may hold. -/
def BankOk (c : Cfg) (ts : Timers) : Prop := ∀ t, TimerOk (period c t) (ts.get t)

theorem period_ne_zero {c : Cfg} (hc : c.WF) (t : TimerId) : period c t ≠ 0#32 := by
  obtain ⟨-, -, ⟨hlong, htick, hcool, hbatt, hadv, hoff⟩, -⟩ := hc
  cases t with
  | long => simp [period, hlong]
  | cool => exact hcool
  | batt => exact hbatt
  | adv => exact hadv
  | off => exact hoff
  | tick => simp [period, htick]

theorem TimerOk.idle (full : BitVec 32) : TimerOk full Timer.idle := rfl

theorem TimerOk.started {full : BitVec 32} (h : full ≠ 0#32) : TimerOk full ⟨true, full⟩ :=
  ⟨h, BitVec.le_refl full⟩

theorem TimerOk.count {full : BitVec 32} {x : Timer} (h : TimerOk full x) (hfull : full ≠ 0#32) (rep : Bool) :
    TimerOk full (x.count rep full) := by
  cases ha : x.armed with
  | false => rwa [x.count_off rep full ha]
  | true =>
    by_cases hlast : x.rem.toNat ≤ 1
    · rw [x.count_last rep full ha hlast]
      cases rep with
      | false => exact .idle full
      | true => exact .started hfull
    · rw [x.count_more rep full ha (by omega)]
      simp only [TimerOk, ha, if_true] at h ⊢
      bv_omega

/-- What counting does to the armed bit: a single-shot timer that expires is disarmed (R138). -/
theorem Timer.count_armed (x : Timer) (rep : Bool) (full : BitVec 32) :
    (x.count rep full).armed = (x.armed && (rep || !x.expires)) := by
  unfold Timer.count
  split
  · next ha =>
    split
    · next he => cases rep <;> simp [ha, he]
    · next he => simp [ha, he]
  · next ha => simp [ha]

theorem BankOk.set {c : Cfg} {ts : Timers} (h : BankOk c ts) {t : TimerId} {x : Timer} (hx : TimerOk (period c t) x) :
    BankOk c (ts.set t x) := by
  intro u
  rw [Timers.get_set]
  split
  · next hu => exact hu ▸ hx
  · exact h u

theorem State.countTimers_get (s : State) (t : TimerId) :
    s.countTimers.timers.get t = (s.timers.get t).count (repeats t) (period s.config t) := by
  cases t <;> rfl

theorem BankOk.countTimers {s : State} (h : BankOk s.config s.timers) (hc : s.config.WF) :
    BankOk s.config s.countTimers.timers := by
  intro t
  rw [State.countTimers_get]
  exact (h t).count (period_ne_zero hc t) _

theorem BankOk.allIdle (c : Cfg) (s : State) : BankOk c s.cancelAll.timers := by
  intro t
  cases t <;> exact .idle _

/-! The Pixel Frame, the buffer and the two traces (R21, R43 item 1, R223, R224, R311). -/

/-- What the Pixel Frame, the waveform buffer and the traces have to do with each other. -/
structure FramesOk (c : Cfg) (px : List Pixel) (buf : List Code) (cmds : List Frame) (waves : List (List Code)) :
    Prop where
  pixels : px.length = c.nPixels
  waveBuf : buf = encodePixels c px
  starts : cmds.count [0x80#8] = waves.length
  frames : ∀ f ∈ waves, f.length = c.waveLength ∧ ∀ w ∈ f, isDutyCode c w
  lastFrame : waves = [] ∨ waves.getLast? = some buf

/-- A command other than WAVE_START announces no frame. -/
theorem FramesOk.emit {c : Cfg} {px : List Pixel} {buf : List Code} {cmds : List Frame} {waves : List (List Code)}
    (h : FramesOk c px buf cmds waves) {cmd : Frame} (hcmd : cmd ≠ [0x80#8]) :
    FramesOk c px buf (cmds ++ [cmd]) waves :=
  { h with starts := by simp [List.count_append, hcmd, h.starts] }

/-- `Render` of any frame of `N_PIXELS` pixels: one frame, one WAVE_START (R224). -/
theorem FramesOk.render {c : Cfg} {px px' : List Pixel} {buf : List Code} {cmds : List Frame} {waves : List (List Code)}
    (h : FramesOk c px buf cmds waves) (hpx : px'.length = c.nPixels) :
    FramesOk c px' (encodePixels c px') (cmds ++ [[0x80#8]]) (waves ++ [encodePixels c px']) where
  pixels := hpx
  waveBuf := rfl
  starts := by simp [List.count_append, h.starts]
  frames := by
    intro f hf
    obtain hf | hf := List.mem_append.mp hf
    · exact h.frames f hf
    · rw [List.mem_singleton.mp hf]
      exact ⟨by rw [encodePixels_length, hpx, Cfg.waveLength], encodePixels_codes c px'⟩
  lastFrame := .inr (by simp)

/-! What every primitive operation keeps, also in the middle of a transition. -/

/-- The part of the invariant in which no Operating State occurs. -/
structure Steady (s : State) : Prop where
  config : s.config.WF
  bank : BankOk s.config s.timers
  frames : FramesOk s.config s.px s.waveBuf s.cmdOut s.waveOut
  floor : s.config.cpMin ≤ s.cpBright
  inbox : ∀ a ∈ s.inbox, a.port = .event

namespace Steady

variable {s : State}

theorem start (h : Steady s) (t : TimerId) : Steady (s.start t) :=
  { h with bank := h.bank.set (.started (period_ne_zero h.config t)) }

theorem cancel (h : Steady s) (t : TimerId) : Steady (s.cancel t) :=
  { h with bank := h.bank.set (.idle _) }

theorem emit (h : Steady s) (cmd : Instr) (hcmd : encode s.config cmd ≠ [0x80#8] := by simp [encode]) :
    Steady (s.emit cmd) :=
  { h with frames := h.frames.emit hcmd }

theorem render (h : Steady s) {px : List Pixel} (hpx : px.length = s.config.nPixels) :
    Steady { s with px := px }.render :=
  { h with frames := h.frames.render hpx }

theorem paint_render (h : Steady s) (f : Nat → Pixel) : Steady (s.paint f).render := h.render (s.paint_length f)

theorem setSensor (h : Steady s) (b : Bool) : Steady (s.setSensor b) :=
  emit (s := { s with sensorActive := b }) { h with } (.sensorPwr (sensorOperand b))

theorem setAnim (h : Steady s) (e : ModeEntry) : Steady (s.setAnim e) :=
  paint_render (s := s.setConfigured e) { h with } _

theorem applyConfig (h : Steady s) (e : ModeEntry) : Steady (s.applyConfig e) :=
  (h.setSensor (needsSensor e.mode)).setAnim e

theorem exitEffect (h : Steady s) : Steady s.exitEffect := by
  unfold State.exitEffect
  split
  · exact (h.emit .radioAdvStop).cancel .adv
  · exact h

theorem quiesce (h : Steady s) : Steady s.quiesce :=
  { ((h.cancel .long).cancel .cool).cancel .batt with }

theorem entryEffect (h : Steady s) (new : OpState) : Steady (s.entryEffect new) := by
  cases new with
  | idle => exact h.applyConfig _
  | advertising => exact (((h.setSensor false).emit .radioAdvStart).setAnim _).start .adv
  | linkConnected => exact h.applyConfig _
  | broadcastReceiving => exact h
  | shuttingDown => exact (h.quiesce.applyConfig _).start .off
  | poweredOff => exact h

theorem transition (h : Steady s) (new : OpState) : Steady (s.transition new) :=
  { h.exitEffect.entryEffect new with }

theorem cancelAll (h : Steady s) : Steady s.cancelAll :=
  { h with bank := .allIdle _ _ }

theorem halt (h : Steady s) (src : Byte) : Steady (s.halt src) := by
  have hlatch : Steady (s.latchHalt src) := { h.cancelAll with }
  exact (hlatch.paint_render _).emit (.fatalReport src)

end Steady

/-! Which timers run, by phase (R43 items 2 to 4 and 6, R135, R195). `due` lists the timers that have expired in this TB
and whose expiry rule has not run yet. -/

/-- The bank while the block is live, in the Operating State `op`. -/
structure LiveBank (due : List TimerId) (op : OpState) (lpArmed : Bool) (ts : Timers) : Prop where
  press : lpArmed = ts.long.armed ∨ .long ∈ due
  longOff : .long ∈ due → ts.long.armed = false
  advOnly : ts.adv.armed = true → op = .advertising
  advRuns : op = .advertising → ts.adv.armed = true ∨ .adv ∈ due
  off : ts.off.armed = false
  batt : ts.batt.armed = true
  tick : ts.tick.armed = true

/-- The bank in ShuttingDown: `T_OFF` and the tick run, nothing else. -/
structure ClosingBank (due : List TimerId) (lpArmed : Bool) (ts : Timers) : Prop where
  press : lpArmed = false
  long : ts.long.armed = false
  cool : ts.cool.armed = false
  batt : ts.batt.armed = false
  adv : ts.adv.armed = false
  off : ts.off.armed = true ∨ .off ∈ due
  tick : ts.tick.armed = true

/-- The bank of a dead block: nothing runs. -/
structure DeadBank (lpArmed : Bool) (ts : Timers) : Prop where
  press : lpArmed = false
  timers : ∀ t, (ts.get t).armed = false

/-- The bank fits the phase of operation: dead, shutting down or live. -/
def Control (due : List TimerId) (s : State) : Prop :=
  if s.dead then DeadBank s.lpArmed s.timers
  else if s.opState = .shuttingDown then ClosingBank due s.lpArmed s.timers
  else LiveBank due s.opState s.lpArmed s.timers

section

variable {due : List TimerId} {s : State}

theorem control_of_dead (h : s.dead = true) : Control due s ↔ DeadBank s.lpArmed s.timers := by
  rw [Control, if_pos h]

theorem control_of_closing (h : Alive s) (hop : s.opState = .shuttingDown) :
    Control due s ↔ ClosingBank due s.lpArmed s.timers := by
  rw [Control, if_neg (by simp [s.dead_eq_false_iff.mpr h]), if_pos hop]

theorem control_of_live (h : Live s) : Control due s ↔ LiveBank due s.opState s.lpArmed s.timers := by
  rw [Control, if_neg (by simp [s.dead_eq_false_iff.mpr (alive_of_live h)]), if_neg h.2.2]

/-- The exit effect leaves no state timer running, which is the bank of Idle (R135). -/
theorem LiveBank.exitEffect (h : LiveBank due s.opState s.lpArmed s.timers) {op : OpState} (hop : op ≠ .advertising) :
    LiveBank due op s.exitEffect.lpArmed s.exitEffect.timers := by
  rw [s.exitEffect_eq]
  by_cases hadv : s.opState = .advertising
  · simp only [hadv, if_true]
    exact { h with advOnly := nofun, advRuns := fun e => absurd e hop }
  · simp only [hadv, if_false]
    exact { h with advOnly := fun e => absurd (h.advOnly e) hadv, advRuns := fun e => absurd e hop }

theorem LiveBank.startAdv {op : OpState} {lpArmed : Bool} {ts : Timers} (h : LiveBank due op lpArmed ts)
    (ms : BitVec 32) : LiveBank due .advertising lpArmed (ts.set .adv ⟨true, ms⟩) :=
  { h with advOnly := fun _ => rfl, advRuns := fun _ => .inl rfl }

/-- What entry to ShuttingDown does to the bank (R135). -/
theorem LiveBank.quiesce {op : OpState} {lpArmed : Bool} {ts : Timers} (h : LiveBank due op lpArmed ts)
    (hop : op ≠ .advertising) (ms : BitVec 32) :
    ClosingBank due false
      ((((ts.set .long Timer.idle).set .cool Timer.idle).set .batt Timer.idle).set .off ⟨true, ms⟩) where
  press := rfl
  long := rfl
  cool := rfl
  batt := rfl
  adv := Bool.eq_false_iff.mpr (fun e => hop (h.advOnly e))
  off := .inl rfl
  tick := h.tick

/-! The bank after each entry (R135). -/

theorem State.transition_advertising_bank (s : State) :
    (s.transition .advertising).lpArmed = s.exitEffect.lpArmed ∧
    (s.transition .advertising).timers = s.exitEffect.timers.set .adv ⟨true, s.exitEffect.config.advTimeoutMs⟩ := by
  simp [State.transition, State.entryEffect, State.setSensor_eq, State.setAnim_eq, period]

theorem State.transition_shuttingDown_bank (s : State) :
    (s.transition .shuttingDown).lpArmed = false ∧
    (s.transition .shuttingDown).timers = (((s.exitEffect.timers.set .long Timer.idle).set .cool Timer.idle).set .batt
      Timer.idle).set .off ⟨true, s.exitEffect.config.offDelayMs⟩ := by
  simp [State.transition, State.entryEffect, State.applyConfig_eq, State.quiesce, period]

/-- The other entries start and stop no timer. -/
theorem State.transition_plain_bank (s : State) {new : OpState} (hadv : new ≠ .advertising)
    (hdown : new ≠ .shuttingDown) :
    (s.transition new).lpArmed = s.exitEffect.lpArmed ∧ (s.transition new).timers = s.exitEffect.timers := by
  cases new <;> simp [State.transition, State.entryEffect, State.applyConfig_eq] at hadv hdown ⊢

/-- `Transition` from a live state (R135). -/
theorem Control.transition (h : Control due s) (hlive : Live s) {new : OpState} (hnew : new ≠ .poweredOff) :
    Control due (s.transition new) := by
  have hbank := (control_of_live hlive).mp h
  have hidle : LiveBank due .idle s.exitEffect.lpArmed s.exitEffect.timers := hbank.exitEffect nofun
  have hplain := s.transition_plain_bank (new := new)
  cases new with
  | advertising =>
    obtain ⟨hpress, htimers⟩ := s.transition_advertising_bank
    rw [control_of_live (live_transition hlive), hpress, htimers]
    exact hidle.startAdv _
  | shuttingDown =>
    obtain ⟨-, -, -, -, -, -, hhalted, -⟩ := s.transition_frame .shuttingDown
    obtain ⟨hpress, htimers⟩ := s.transition_shuttingDown_bank
    rw [control_of_closing ⟨hhalted.trans hlive.1, nofun⟩ rfl, hpress, htimers]
    exact hidle.quiesce nofun _
  | idle | linkConnected | broadcastReceiving =>
    obtain ⟨hpress, htimers⟩ := hplain nofun nofun
    rw [control_of_live (live_transition hlive), hpress, htimers]
    exact hbank.exitEffect nofun
  | poweredOff => exact absurd rfl hnew

end

/-! Item 5 of R43. -/

/-- A valid last descriptor is what BroadcastReceiving shows. -/
def ShownDesc (s : State) : Prop :=
  s.lastDescValid = true → s.opState = .broadcastReceiving ∧
    entryOfDesc s.lastDesc = some ⟨s.animMode, s.cfg.rgb⟩ ∧ s.cfg = Pixel.ofRGB s.cfg.rgb

theorem ShownDesc.of_invalid {s : State} (h : s.lastDescValid = false) : ShownDesc s := by
  intro hvalid
  exact absurd hvalid (by simp [h])

/-- Every entry effect but that of BroadcastReceiving makes the last descriptor invalid (R197). -/
theorem ShownDesc.transition {s : State} (h : ShownDesc s) {new : OpState} (hnew : new ≠ .poweredOff) :
    ShownDesc (s.transition new) := by
  cases new with
  | idle | advertising | linkConnected | shuttingDown => exact .of_invalid rfl
  | broadcastReceiving =>
    have hentry : s.transition .broadcastReceiving = { s.exitEffect with opState := .broadcastReceiving } := rfl
    rw [hentry, s.exitEffect_eq]
    intro hvalid
    obtain ⟨-, hdesc, hcfg⟩ := h hvalid
    exact ⟨rfl, hdesc, hcfg⟩
  | poweredOff => exact absurd rfl hnew

/-! The three parts together, and what the shared operations do to them. -/

/-- The invariant while the expiry rules of `due` have still to run. -/
structure InvDue (due : List TimerId) (s : State) : Prop extends Steady s where
  control : Control due s
  shown : ShownDesc s

namespace InvDue

variable {due : List TimerId} {s t : State}

/-- A write of registers that the invariant does not speak of. For a record update the equation holds by `rfl`. -/
theorem write (h : InvDue due s)
    (hrest : t = { s with
      buttonMode := t.buttonMode, sensorActive := t.sensorActive, activeGroup := t.activeGroup, battPct := t.battPct
      motionFlag := t.motionFlag, blinkPhase := t.blinkPhase, pulsePhase := t.pulsePhase
      rainbowPhase := t.rainbowPhase, shiftPhase := t.shiftPhase, clapHue := t.clapHue, waveHue := t.waveHue
      accelPrev := t.accelPrev, jerk := t.jerk } := by rfl) : InvDue due t := by
  rw [hrest]
  exact { h with }

theorem of_live (h : Steady s) (hlive : Live s) (hbank : LiveBank due s.opState s.lpArmed s.timers)
    (hshown : ShownDesc s) : InvDue due s :=
  ⟨h, (control_of_live hlive).mpr hbank, hshown⟩

theorem emit (h : InvDue due s) (cmd : Instr) (hcmd : encode s.config cmd ≠ [0x80#8] := by simp [encode]) :
    InvDue due (s.emit cmd) :=
  ⟨h.toSteady.emit cmd hcmd, h.control, h.shown⟩

theorem render (h : InvDue due s) : InvDue due s.render :=
  ⟨h.toSteady.render h.frames.pixels, h.control, h.shown⟩

theorem paint_render (h : InvDue due s) (f : Nat → Pixel) : InvDue due (s.paint f).render :=
  ⟨h.toSteady.paint_render f, h.control, h.shown⟩

theorem applyConfig (h : InvDue due s) (e : ModeEntry) : InvDue due (s.applyConfig e) :=
  ⟨h.toSteady.applyConfig e, h.control, .of_invalid rfl⟩

theorem transition (h : InvDue due s) (hlive : Live s) {new : OpState} (hnew : new ≠ .poweredOff := by nofun) :
    InvDue due (s.transition new) :=
  ⟨h.toSteady.transition new, h.control.transition hlive hnew, h.shown.transition hnew⟩

theorem halt (h : InvDue due s) (src : Byte) : InvDue due (s.halt src) := by
  refine ⟨h.toSteady.halt src, (control_of_dead rfl).mpr ⟨rfl, fun t => ?_⟩, h.shown⟩
  cases t <;> rfl

end InvDue

/-! The animation ticks (R200 to R207). Only ClapPulse writes a register that the invariant speaks of. -/

/-- `max(cp_bright − CP_DECAY, CP_MIN)` fits in a byte and is not below the floor (R206). -/
theorem floor_le_clapDecay (c : Cfg) (bright : Byte) : c.cpMin ≤ clapDecay c bright := by
  have hbright := bright.isLt
  have hmin := c.cpMin.isLt
  rw [BitVec.le_def, clapDecay, wrap8, BitVec.toNat_ofInt]
  omega

theorem floor_le_clapBright (c : Cfg) (motion : Bool) (bright : Byte) :
    c.cpMin ≤ if motion then 255#8 else clapDecay c bright := by
  cases motion with
  | false => exact floor_le_clapDecay c bright
  | true => exact BitVec.le_def.mpr (Nat.le_of_lt_succ c.cpMin.isLt)

section

variable {due : List TimerId} {s : State}

theorem tickClapToggle_invDue (h : InvDue due s) : InvDue due (tickClapToggle s) := by
  unfold tickClapToggle
  split
  · exact .paint_render h.write _
  · exact h.render

theorem tickClapPulse_invDue (h : InvDue due s) : InvDue due (tickClapPulse s) := by
  have hbright : InvDue due { s with
      motionFlag := false
      cpBright := if s.motionFlag then 255#8 else clapDecay s.config s.cpBright } :=
    { h with floor := floor_le_clapBright _ _ _ }
  exact hbright.paint_render _

theorem tickWaveRainbow_invDue (h : InvDue due s) : InvDue due (tickWaveRainbow s) := by
  unfold tickWaveRainbow
  split
  · exact .paint_render h.write _
  · exact h

theorem animationTick_invDue (h : InvDue due s) : InvDue due (animationTick s) := by
  unfold animationTick
  cases s.animMode with
  | static => exact h.render
  | blink | pulse | rainbow | colorShift => exact .paint_render h.write _
  | clapToggle => exact tickClapToggle_invDue h
  | clapPulse => exact tickClapPulse_invDue h
  | waveRainbow => exact tickWaveRainbow_invDue h

/-! The events other than TB. Each is ignored when the block is deaf (IO_FAIL: dead). -/

theorem of_not_deaf {t : State} (h : InvDue due s) (ht : Live s → InvDue due t) :
    InvDue due (if s.deaf then s else t) := by
  split
  · exact h
  · next hdeaf => exact ht (s.deaf_eq_false_iff.mp (Bool.eq_false_iff.mpr hdeaf))

theorem ite_invDue {c : Prop} [Decidable c] {t u : State} (ht : InvDue due t) (hu : InvDue due u) :
    InvDue due (if c then t else u) := by
  split
  · exact ht
  · exact hu

/-- BTN_DOWN opens a press (R141). -/
theorem pressDown_invDue (h : InvDue [] s) (hlive : Live s) : InvDue [] { s.start .long with lpArmed := true } := by
  have hbank := (control_of_live hlive).mp h.control
  have hopen : LiveBank [] s.opState true (s.start .long).timers :=
    { hbank with press := .inl rfl, longOff := fun hdue => absurd hdue List.not_mem_nil }
  exact .of_live { h.toSteady.start .long with } hlive hopen h.shown

/-- A release closes the press (R142). -/
theorem release_invDue (h : InvDue due s) (hlive : Live s) :
    InvDue due { s.cancel .long with lpArmed := false } := by
  have hbank := (control_of_live hlive).mp h.control
  have hclosed : LiveBank due s.opState false (s.cancel .long).timers :=
    { hbank with press := .inl rfl, longOff := fun _ => rfl }
  exact .of_live { h.toSteady.cancel .long with } hlive hclosed h.shown

theorem shortPress_invDue (h : InvDue due s) (hlive : Live s) : InvDue due (shortPress s) := by
  unfold shortPress
  split
  · exact .applyConfig h.write _
  · exact h.transition hlive
  all_goals exact h -- the four states in which a short press does nothing

theorem updateJerk_invDue (h : InvDue due s) (x y z : Half) : InvDue due (updateJerk s x y z) := by
  unfold updateJerk
  exact h.write

/-- The movement filter may start the cooldown, which the invariant bounds but leaves free while the block is live. -/
theorem detect_invDue (h : InvDue due s) (hlive : Live s) : InvDue due (detect s) := by
  obtain hsame | hflag | ⟨-, hstart⟩ := detect_cases s
  · rwa [hsame]
  · rw [hflag]
    exact h.write
  · rw [hstart]
    have hbank : LiveBank due s.opState s.lpArmed (s.start .cool).timers :=
      { (control_of_live hlive).mp h.control with }
    exact .of_live { h.toSteady.start .cool with } hlive hbank h.shown

theorem sampleBattery_invDue (h : InvDue due s) (hlive : Live s) (w : Half) : InvDue due (sampleBattery s w) := by
  have hpct : InvDue due { s with battPct := battPercent s.config w } := h.write
  exact ite_invDue (hpct.transition hlive) (ite_invDue (hpct.emit _) hpct)

/-- BCAST's tail: the descriptor it remembers is the one it has applied (R149). -/
theorem applyBroadcast_invDue (h : InvDue due s) (hlive : Live s) {d : BitVec 21} {e : ModeEntry}
    (hd : entryOfDesc d = some e) : InvDue due (applyBroadcast s d e) := by
  unfold applyBroadcast
  generalize hs1 : (if s.opState ≠ .broadcastReceiving then s.transition .broadcastReceiving else s) = s1
  have h1 : InvDue due s1 := hs1 ▸ ite_invDue (h.transition hlive) h
  have hop : s1.opState = .broadcastReceiving := by
    rw [← hs1]
    split
    · rfl
    · next hsame => exact Decidable.not_not.mp hsame
  exact { h1.applyConfig e with shown := fun _ => ⟨hop, hd, rfl⟩ }

theorem selectGroup_invDue (h : InvDue due s) (g : Fin 6) : InvDue due (selectGroup s g) := by
  have hgroup : InvDue due { s with activeGroup := g, lastDescValid := false } :=
    { h with shown := .of_invalid rfl }
  exact (hgroup.emit (.storeGroup (BitVec.ofNat 8 g.val))).emit _

/-! The expiry rules (R144, R150 to R154). -/

/-- What holds unless `u`'s rule is due still holds unless it is due later, if the rule now run has settled it. -/
theorem or_mem_of_cons {p : Prop} {t u : TimerId} (h : p ∨ u ∈ t :: due) (hhead : t = u → p) : p ∨ u ∈ due := by
  obtain hp | hdue := h
  · exact .inl hp
  · exact (List.mem_cons.mp hdue).imp_left fun hu => hhead hu.symm

/-- An expiry has run, or had nothing to do: it need not be waited for any more. -/
theorem Control.drop {t : TimerId} (h : Control (t :: due) s)
    (hpress : t = .long → Live s → s.lpArmed = s.timers.long.armed)
    (hadv : t = .adv → Live s → s.opState ≠ .advertising)
    (hoff : t = .off → Alive s → s.opState ≠ .shuttingDown) : Control due s := by
  cases hdead : s.dead with
  | true => exact (control_of_dead hdead).mpr ((control_of_dead hdead).mp h)
  | false =>
    have halive := s.dead_eq_false_iff.mp hdead
    obtain hclosing | hlive := closing_or_live halive
    · have hbank := (control_of_closing halive hclosing).mp h
      exact (control_of_closing halive hclosing).mpr
        { hbank with off := or_mem_of_cons hbank.off fun ht => absurd hclosing (hoff ht halive) }
    · have hbank := (control_of_live hlive).mp h
      exact (control_of_live hlive).mpr
        { hbank with
          press := or_mem_of_cons hbank.press fun ht => hpress ht hlive
          longOff := fun hdue => hbank.longOff (.tail _ hdue)
          advRuns := fun hop => or_mem_of_cons (hbank.advRuns hop) fun ht => absurd hop (hadv ht hlive) }

/-- X_LONG closes the press that its timer held open (R144). -/
theorem longPress_invDue (h : InvDue (.long :: due) s) : InvDue due (longPress s) := by
  unfold longPress
  split
  · next hdeaf =>
    have hnotLive : ¬ Live s := fun hlive => by simp [s.deaf_eq_false_iff.mpr hlive] at hdeaf
    exact { h with control := h.control.drop (fun _ hlive => absurd hlive hnotLive) nofun nofun }
  · next hdeaf =>
    have hlive := s.deaf_eq_false_iff.mp (Bool.eq_false_iff.mpr hdeaf)
    have hbank := (control_of_live hlive).mp h.control
    have hoff : s.timers.long.armed = false := hbank.longOff (.head _)
    have hclosed : Control (.long :: due) { s with lpArmed := false } :=
      (control_of_live (s := { s with lpArmed := false }) hlive).mpr { hbank with press := .inl hoff.symm }
    have hs1 : InvDue due { s with lpArmed := false } :=
      { h with control := hclosed.drop (fun _ _ => hoff.symm) nofun nofun }
    dsimp only
    split
    · exact hs1.transition hlive
    · exact hs1.transition hlive
    · exact hs1.transition hlive
    all_goals exact hs1 -- the three states in which a long press only clears `lp_armed`

/-- X_BATT asks for a sample (R151). -/
theorem requestSample_invDue (h : InvDue due s) : InvDue due (requestSample s) := by
  unfold requestSample
  exact ite_invDue h (h.emit .battSampleReq)

/-- X_TICK (R154). -/
theorem animationExpiry_invDue (h : InvDue due s) : InvDue due (animationExpiry s) := by
  unfold animationExpiry
  exact ite_invDue h (animationTick_invDue h)

/-- X_ADV ends Advertising (R152). -/
theorem advertisingTimeout_invDue (h : InvDue (.adv :: due) s) : InvDue due (advertisingTimeout s) := by
  unfold advertisingTimeout
  split
  · next hcond =>
    have hidle := h.transition (s.deaf_eq_false_iff.mp hcond.2) (new := .idle)
    exact { hidle with control := hidle.control.drop nofun (fun _ _ => nofun) nofun }
  · next hcond =>
    have hnot : Live s → s.opState ≠ .advertising := fun hlive hop =>
      hcond ⟨hop, s.deaf_eq_false_iff.mpr hlive⟩
    exact { h with control := h.control.drop nofun (fun _ => hnot) nofun }

/-- X_OFF powers the block off (R153). -/
theorem powerOff_invDue (h : InvDue (.off :: due) s) : InvDue due (powerOff s) := by
  unfold powerOff
  split
  · next hcond =>
    have hnot : Alive s → s.opState ≠ .shuttingDown := by
      rintro ⟨hhalted, -⟩ hop
      simp [hhalted, hop] at hcond
    exact { h with control := h.control.drop nofun nofun (fun _ => hnot) }
  · next hcond =>
    have hop : s.opState = .shuttingDown := Decidable.not_not.mp fun hne => hcond (.inl hne)
    have halive : Alive s := ⟨Bool.eq_false_iff.mpr fun hhalted => hcond (.inr hhalted), by simp [hop]⟩
    have hbank := (control_of_closing halive hop).mp h.control
    have hsteady := (((h.toSteady.emit .ledDriverOff).emit .inputIrqOff).emit .platformOff).cancelAll
    have hinvalid : s.lastDescValid = false := Bool.eq_false_iff.mpr fun hvalid => by
      obtain ⟨hreceiving, -⟩ := h.shown hvalid
      simp [hop] at hreceiving
    refine { hsteady with control := (control_of_dead (by simp [State.dead])).mpr ⟨hbank.press, fun t => ?_⟩
                          shown := .of_invalid hinvalid }
    cases t <;> rfl

/-- The rule of any timer that has just expired. -/
theorem expire_invDue {t : TimerId} (h : InvDue (t :: due) s) : InvDue due (expire t s) := by
  cases t with
  | long => exact longPress_invDue h
  | cool => exact { h with control := h.control.drop nofun nofun nofun }
  | batt => exact requestSample_invDue { h with control := h.control.drop nofun nofun nofun }
  | adv => exact advertisingTimeout_invDue h
  | off => exact powerOff_invDue h
  | tick => exact animationExpiry_invDue { h with control := h.control.drop nofun nofun nofun }

/-- In a dead block no expiry is waited for (R138: `Dead` is tested again before each expiry). -/
theorem skip_invDue {t : TimerId} (h : InvDue (t :: due) s) (hdead : s.dead = true) : InvDue due s :=
  { h with control := (control_of_dead hdead).mpr ((control_of_dead hdead).mp h.control) }

end

/-! TB (R138). -/

/-- The timers whose expiry rule phase 2 of TB will run. -/
def dueIn (before : Timers) (l : List TimerId) : List TimerId := l.filter (fun t => (before.get t).expires)

theorem mem_dueIn_timerOrder (before : Timers) (t : TimerId) :
    t ∈ dueIn before timerOrder ↔ (before.get t).expires = true := by
  cases t <;> simp [dueIn, timerOrder]

/-- Phase 2 runs the rules of the expired timers one after the other. -/
theorem foldl_fire_inv (before : Timers) (l : List TimerId) (s : State) (h : InvDue (dueIn before l) s) :
    InvDue [] (l.foldl (fireIfExpired before) s) := by
  induction l generalizing s with
  | nil => exact h
  | cons t l ih =>
    apply ih
    unfold fireIfExpired
    cases hexp : (before.get t).expires with
    | false => simpa [dueIn, hexp] using h
    | true =>
      have hhead : InvDue (t :: dueIn before l) s := by simpa [dueIn, hexp] using h
      cases hdead : s.dead with
      | false => exact expire_invDue hhead
      | true => exact skip_invDue hhead hdead

/-- A single-shot timer runs on after a TB unless it has expired. -/
theorem Timer.count_oneShot (x : Timer) (full : BitVec 32) :
    (x.count false full).armed = (x.armed && !x.expires) := by
  simp [Timer.count_armed]

/-- A repeating timer runs on after a TB, expired or not. -/
theorem Timer.count_repeating (x : Timer) (full : BitVec 32) : (x.count true full).armed = x.armed := by
  simp [Timer.count_armed]

/-- A single-shot timer that ran has expired in this TB or runs on. -/
theorem Timer.count_runs_or_expires {x : Timer} (h : x.armed = true) (full : BitVec 32) :
    (x.count false full).armed = true ∨ x.expires = true := by
  cases he : x.expires <;> simp [Timer.count_oneShot, h, he]

theorem Timer.count_off_armed {x : Timer} (h : x.armed = false) (rep : Bool) (full : BitVec 32) :
    (x.count rep full).armed = false := by
  rw [x.count_off rep full h, h]

theorem Timer.armed_of_count {x : Timer} {rep : Bool} {full : BitVec 32} (h : (x.count rep full).armed = true) :
    x.armed = true := by
  rw [Timer.count_armed, Bool.and_eq_true] at h
  exact h.1

theorem ClosingBank.countTimers {s : State} (h : ClosingBank [] s.lpArmed s.timers) :
    ClosingBank (dueIn s.timers timerOrder) s.lpArmed s.countTimers.timers where
  press := h.press
  long := Timer.count_off_armed h.long _ _
  cool := Timer.count_off_armed h.cool _ _
  batt := Timer.count_off_armed h.batt _ _
  adv := Timer.count_off_armed h.adv _ _
  off := by
    rw [mem_dueIn_timerOrder]
    exact Timer.count_runs_or_expires (h.off.resolve_right List.not_mem_nil) _
  tick := (Timer.count_repeating _ _).trans h.tick

theorem LiveBank.countTimers {s : State} (h : LiveBank [] s.opState s.lpArmed s.timers) :
    LiveBank (dueIn s.timers timerOrder) s.opState s.lpArmed s.countTimers.timers where
  press := by
    rw [mem_dueIn_timerOrder, h.press.resolve_right List.not_mem_nil]
    cases hlong : s.timers.long.armed with
    | false => exact .inl (Timer.count_off_armed hlong _ _).symm
    | true => exact (Timer.count_runs_or_expires hlong _).imp_left Eq.symm
  longOff := by
    rw [mem_dueIn_timerOrder]
    intro hexp
    exact (Timer.count_oneShot _ _).trans (by simp [show s.timers.long.expires = true from hexp])
  advOnly := fun hrun => h.advOnly (Timer.armed_of_count hrun)
  advRuns := by
    rw [mem_dueIn_timerOrder]
    intro hop
    exact Timer.count_runs_or_expires ((h.advRuns hop).resolve_right List.not_mem_nil) _
  off := Timer.count_off_armed h.off _ _
  batt := (Timer.count_repeating _ _).trans h.batt
  tick := (Timer.count_repeating _ _).trans h.tick

/-- Phase 1 counts every timer, and the rules of those that reach 0 are due. -/
theorem countTimers_invDue {s : State} (h : InvDue [] s) (halive : Alive s) :
    InvDue (dueIn s.timers timerOrder) s.countTimers := by
  have hsteady : Steady s.countTimers := { h with bank := h.bank.countTimers h.config }
  refine { hsteady with control := ?_, shown := h.shown }
  obtain hclosing | hlive := closing_or_live halive
  · exact (control_of_closing (s := s.countTimers) halive hclosing).mpr
      (((control_of_closing halive hclosing).mp h.control).countTimers)
  · exact (control_of_live (s := s.countTimers) hlive).mpr (((control_of_live hlive).mp h.control).countTimers)

theorem execTb_inv {s t : State} (h : InvDue [] s) (he : execTb s = .next t) : InvDue [] t := by
  cases he
  cases hdead : s.dead with
  | true => exact h
  | false => exact foldl_fire_inv _ _ _ (countTimers_invDue h (s.dead_eq_false_iff.mp hdead))

/-! The 13 event rows (R130). -/

/-- A row that answers `u` has no other next state. -/
theorem holds_of_next {P : State → Prop} {t u : State} (h : (.next u : Host.Outcome State Fault Refusal) = .next t)
    (hu : P u) : P t := by
  cases h
  exact hu

theorem execLinkCmd_inv {mode red green blue : Byte} {s t : State} (h : InvDue [] s)
    (he : execLinkCmd mode red green blue s = .next t) : InvDue [] t := by
  cases he
  refine of_not_deaf h fun _ => ite_invDue h ?_
  split
  · exact h.applyConfig _
  · exact h

theorem execBcast_inv {ch : Byte} {payload : BitVec 63} {s t : State} (h : InvDue [] s)
    (he : execBcast ch payload s = .next t) : InvDue [] t := by
  cases he
  refine of_not_deaf h fun hlive => ite_invDue h ?_
  dsimp only
  split
  · exact h
  · next hd => exact ite_invDue h (applyBroadcast_invDue h hlive hd)

theorem execGroupSet_inv {a : Byte} {s t : State} (h : InvDue [] s) (he : execGroupSet a s = .next t) :
    InvDue [] t := by
  cases he
  refine of_not_deaf h fun _ => ?_
  split
  · exact selectGroup_invDue h _
  · exact h

theorem exec_inv {i : Instr} {s t : State} (hport : i.port = .event) (h : InvDue [] s) (he : exec i s = .next t) :
    InvDue [] t := by
  cases i with
  | nop => exact holds_of_next he h
  | tb => exact execTb_inv h he
  | btnDown a => exact holds_of_next he (of_not_deaf h fun hlive => ite_invDue h (pressDown_invDue h hlive))
  | btnUp a =>
    refine holds_of_next he (of_not_deaf h fun hlive => ite_invDue h (ite_invDue h ?_))
    exact shortPress_invDue (release_invDue h hlive) hlive
  | accel x y z =>
    exact holds_of_next he (of_not_deaf h fun hlive => detect_invDue (updateJerk_invDue h x y z) hlive)
  | linkUp => exact holds_of_next he (of_not_deaf h fun hlive => ite_invDue (h.transition hlive) h)
  | linkDown => exact holds_of_next he (of_not_deaf h fun hlive => ite_invDue (h.transition hlive) h)
  | linkCmd mode red green blue => exact execLinkCmd_inv h he
  | bcast ch payload => exact execBcast_inv h he
  | bcastDrop => exact holds_of_next he (of_not_deaf h fun hlive => ite_invDue (h.transition hlive) h)
  | batt w => exact holds_of_next he (of_not_deaf h fun hlive => sampleBattery_invDue h hlive w)
  | ioFail a => exact holds_of_next he (ite_invDue h (h.halt a))
  | groupSet a => exact execGroupSet_inv h he
  | _ => cases hport -- the rows of the other ports

/-! At an event boundary nothing is due, and the three parts are the invariant of Safety.lean. -/

/-- What `Inv` says of the timers' armed bits (R43 items 2 to 4 and 6, R135, R195), in its own words. -/
structure BoundaryBank (s : State) : Prop where
  lpArmed : s.lpArmed = s.timers.long.armed
  advTimer : s.halted = false → (s.timers.adv.armed = true ↔ s.opState = .advertising)
  offTimer : s.halted = false → (s.timers.off.armed = true ↔ s.opState = .shuttingDown)
  dead : s.dead = true → ∀ t, (s.timers.get t).armed = false
  quiet : s.opState = .shuttingDown →
    s.timers.long.armed = false ∧ s.timers.cool.armed = false ∧ s.timers.batt.armed = false
  tickRuns : s.dead = false → s.timers.tick.armed = true
  battRuns : s.deaf = false → s.timers.batt.armed = true

section

variable {s : State}

theorem DeadBank.boundary (h : DeadBank s.lpArmed s.timers) (hdead : s.dead = true) : BoundaryBank s := by
  have hpowered (hhalted : s.halted = false) : s.opState = .poweredOff := by
    simpa [State.dead, hhalted] using hdead
  have hadv : s.timers.adv.armed = false := h.timers .adv
  have hoff : s.timers.off.armed = false := h.timers .off
  exact
    { lpArmed := h.press.trans (h.timers .long).symm
      advTimer := fun hhalted => by simp [hpowered hhalted, hadv]
      offTimer := fun hhalted => by simp [hpowered hhalted, hoff]
      dead := fun _ => h.timers
      quiet := fun _ => ⟨h.timers .long, h.timers .cool, h.timers .batt⟩
      tickRuns := by simp [hdead]
      battRuns := by simp [State.deaf, hdead] }

theorem ClosingBank.boundary (h : ClosingBank [] s.lpArmed s.timers) (halive : Alive s)
    (hop : s.opState = .shuttingDown) : BoundaryBank s where
  lpArmed := h.press.trans h.long.symm
  advTimer := by simp [hop, h.adv]
  offTimer := by simp [hop, h.off.resolve_right List.not_mem_nil]
  dead := by simp [s.dead_eq_false_iff.mpr halive]
  quiet := fun _ => ⟨h.long, h.cool, h.batt⟩
  tickRuns := fun _ => h.tick
  battRuns := by simp [State.deaf, hop]

theorem LiveBank.boundary (h : LiveBank [] s.opState s.lpArmed s.timers) (hlive : Live s) : BoundaryBank s := by
  have hnotClosing : s.opState ≠ .shuttingDown := hlive.2.2
  exact
    { lpArmed := h.press.resolve_right List.not_mem_nil
      advTimer := fun _ => ⟨h.advOnly, fun hop => (h.advRuns hop).resolve_right List.not_mem_nil⟩
      offTimer := by simp [h.off, hnotClosing]
      dead := by simp [s.dead_eq_false_iff.mpr (alive_of_live hlive)]
      quiet := fun hop => absurd hop hnotClosing
      tickRuns := fun _ => h.tick
      battRuns := fun _ => h.batt }

theorem Control.boundary (h : Control [] s) : BoundaryBank s := by
  cases hdead : s.dead with
  | true => exact ((control_of_dead hdead).mp h).boundary hdead
  | false =>
    have halive := s.dead_eq_false_iff.mp hdead
    obtain hclosing | hlive := closing_or_live halive
    · exact ((control_of_closing halive hclosing).mp h).boundary halive hclosing
    · exact ((control_of_live hlive).mp h).boundary hlive

theorem BoundaryBank.control (h : BoundaryBank s) : Control [] s := by
  cases hdead : s.dead with
  | true => exact (control_of_dead hdead).mpr ⟨h.lpArmed.trans (h.dead hdead .long), h.dead hdead⟩
  | false =>
    have halive := s.dead_eq_false_iff.mp hdead
    have hadv := h.advTimer halive.1
    have hoff := h.offTimer halive.1
    obtain hclosing | hlive := closing_or_live halive
    · obtain ⟨hlong, hcool, hbatt⟩ := h.quiet hclosing
      have hadvOff : s.timers.adv.armed = false := by simp [← Bool.not_eq_true, hadv, hclosing]
      exact (control_of_closing halive hclosing).mpr
        ⟨h.lpArmed.trans hlong, hlong, hcool, hbatt, hadvOff, .inl (hoff.mpr hclosing), h.tickRuns hdead⟩
    · have hoffOff : s.timers.off.armed = false := by simp [← Bool.not_eq_true, hoff, hlive.2.2]
      exact (control_of_live hlive).mpr
        ⟨.inl h.lpArmed, nofun, hadv.mp, fun hop => .inl (hadv.mpr hop), hoffOff,
          h.battRuns (s.deaf_eq_false_iff.mpr hlive), h.tickRuns hdead⟩

/-- The two fields of `Inv` on what the timers hold. -/
theorem bankOk_iff (c : Cfg) (ts : Timers) :
    BankOk c ts ↔ (∀ t, (ts.get t).armed = false → (ts.get t).rem = 0#32) ∧
      ∀ t, (ts.get t).armed = true → (ts.get t).rem ≠ 0#32 ∧ (ts.get t).rem ≤ period c t := by
  constructor
  · intro h
    exact ⟨fun t ht => by simpa [TimerOk, ht] using h t, fun t ht => by simpa [TimerOk, ht] using h t⟩
  · rintro ⟨hidle, harmed⟩ t
    cases ht : (ts.get t).armed with
    | false => simpa [TimerOk, ht] using hidle t ht
    | true => simpa [TimerOk, ht] using harmed t ht

theorem inv_iff : Inv s ↔ InvDue [] s := by
  constructor
  · intro h
    have hbank : BoundaryBank s := { h with }
    exact
      { h with
        bank := (bankOk_iff _ _).mpr ⟨h.idleTimers, h.armedTimers⟩
        frames := { h with }
        control := hbank.control
        shown := h.shownDesc }
  · intro h
    obtain ⟨hidle, harmed⟩ := (bankOk_iff _ _).mp h.bank
    exact
      { h.frames, h, h.control.boundary with
        shownDesc := h.shown, idleTimers := hidle, armedTimers := harmed }

end

/-! One step (R70, R94, R95, R130): what waits at the event port decodes to an event or to nothing. -/

/-- The event port's decoder answers event rows only (R92, R93). -/
theorem decodeEvent_port {bs : Frame} {i : Instr} (h : decodeEvent bs = .ok i) : i.port = .event := by
  unfold decodeEvent at h
  split at h
  · cases h
  · split at h
    case h_14 => cases h -- a reserved code
    all_goals -- the 13 codes: the format answers the code's own row or an error
      simp only [formatE0, formatE1, formatE2, formatE4, formatE6, formatE9] at h
      split at h <;> cases h
      rfl

/-- Taking what waits first leaves the invariant, and what was taken stood at the event port. -/
theorem fetch_inv {s u : State} {a : Arrival} (h : InvDue [] s) (he : fetch s = some (a, u)) :
    InvDue [] u ∧ a.port = .event := by
  obtain ⟨rest, hinbox, rfl⟩ := (fetch_eq_some s u a).mp he
  refine ⟨{ h with inbox := fun b hb => h.inbox b ?_ }, h.inbox a ?_⟩
  · exact hinbox ▸ .tail _ hb
  · exact hinbox ▸ .head _

theorem step_inv {s t : State} (h : InvDue [] s) (he : step s = .next t) : InvDue [] t := by
  unfold step at he
  split at he
  · cases he
    exact h
  · next a u hfetch =>
    obtain ⟨hu, hport⟩ := fetch_inv h hfetch
    rw [hport] at he
    split at he
    · next i hdecode => exact exec_inv (decodeEvent_port hdecode) hu he
    · rw [undecodable, hport] at he
      cases he
      exact hu

/-- Settles O36: `step` takes one event row, and each of the 13 keeps the invariant. -/
theorem everyStepKeepsTheBoundaryInvariant : Obligations.EveryStepKeepsTheBoundaryInvariant := by
  intro s t h he
  exact inv_iff.mpr (step_inv (inv_iff.mp h) he)

/-- Settles O35: the reset state is live and idle, with the battery check and the tick running. -/
theorem boundaryInvariantHoldsAtReset : Obligations.BoundaryInvariantHoldsAtReset := by
  intro c hc
  have hsteady : Steady (State.resetWith c) :=
    { config := hc
      bank := fun t => by
        cases t with
        | batt => exact .started (period_ne_zero hc .batt)
        | tick => exact .started (period_ne_zero hc .tick)
        | long | cool | adv | off => exact .idle _
      frames := ⟨List.length_replicate, rfl, rfl, nofun, .inl rfl⟩
      floor := BitVec.le_refl c.cpMin
      inbox := nofun }
  have hbank : LiveBank [] .idle false (State.resetWith c).timers := ⟨.inl rfl, nofun, nofun, nofun, rfl, rfl, rfl⟩
  exact inv_iff.mpr (.of_live hsteady ⟨rfl, nofun, nofun⟩ hbank (.of_invalid rfl))

/-! Every reachable state (R43). -/

theorem inv_of_reachable {s : State} (h : Reachable s) : Inv s := by
  induction h with
  | reset c hc => exact boundaryInvariantHoldsAtReset c hc
  | deliver s frames _ ih =>
    refine { ih with inbox := fun a ha => ?_ }
    obtain ha | ha := List.mem_append.mp ha
    · exact ih.inbox a ha
    · obtain ⟨f, -, rfl⟩ := List.mem_map.mp ha
      rfl
  | step s t _ he ih => exact everyStepKeepsTheBoundaryInvariant s t ih he

theorem code_of_ofCode {n : Nat} {m : AnimMode} (h : AnimMode.ofCode n = some m) : n = m.code := by
  unfold AnimMode.ofCode at h
  split at h <;> cases h <;> rfl

/-- The configuration of a descriptor has its unpacked mode and colour (R251). -/
theorem unpack_of_entryOfDesc {d : BitVec 21} {e : ModeEntry} (h : entryOfDesc d = some e) :
    (unpack d).mode.toNat = e.mode.code ∧ e.color = (unpack d).color := by
  obtain ⟨m, hm, rfl⟩ := Option.map_eq_some_iff.mp h
  exact ⟨code_of_ofCode hm, rfl⟩

theorem opStateCode_le (o : OpState) : opStateCode o ≤ 5 := by
  cases o <;> decide

/-- Settles O37: items 1 to 6 are fields of the invariant, item 7 holds by the types of the registers. -/
theorem reachableStatesKeepTheBoundaryFacts : Obligations.ReachableStatesKeepTheBoundaryFacts := by
  intro s hs
  have h := inv_of_reachable hs
  refine ⟨h.waveBuf, h.lpArmed, h.advTimer, h.offTimer, fun hvalid => ?_, fun hdead => h.dead ?_,
    Nat.le_of_lt_succ s.buttonMode.isLt, Nat.le_of_lt_succ s.activeGroup.isLt, opStateCode_le s.opState,
    Nat.le_of_lt_succ s.battPct.isLt⟩
  · obtain ⟨hop, hdesc, hcfg⟩ := h.shownDesc hvalid
    obtain ⟨hmode, hcolor⟩ := unpack_of_entryOfDesc hdesc
    refine ⟨hop, hmode, ?_⟩
    rw [← hcolor]
    exact hcfg
  · simpa [State.dead, or_comm] using hdead

end Sys2Proof.Machine
end

section
/-! PROOFS. What moves a counter (R37) and what moves `button_mode` (R27): obligations O40 and O41. Every row but four
kinds leaves both as they are (`exec_touches`): a release of the button, X_TICK, a TB, and the rows of the modes. Each
kind has one lemma that says what it may move. At the end the reset table (R44; obligation O34). -/

namespace Sys2Proof.Machine

open Claims (Alive counterOf modes modeRows)

/-- Neither `button_mode` nor a counter differs. -/
structure Untouched (s t : State) : Prop where
  buttonMode : t.buttonMode = s.buttonMode
  counters : ∀ m, counterOf m t = counterOf m s

namespace Untouched

variable {s t u : State}

theorem refl (s : State) : Untouched s s := ⟨rfl, fun _ => rfl⟩

theorem trans (h : Untouched s t) (h' : Untouched t u) : Untouched s u :=
  ⟨h'.buttonMode.trans h.buttonMode, fun m => (h'.counters m).trans (h.counters m)⟩

/-- A write of other registers only. For a record update both equations hold by `rfl`. -/
theorem write (h : Untouched s t) (hbutton : u.buttonMode = t.buttonMode := by rfl)
    (hcounters : ∀ m, counterOf m u = counterOf m t := by intro m; cases m <;> rfl) : Untouched s u :=
  h.trans ⟨hbutton, hcounters⟩

theorem ite {c : Prop} [Decidable c] (ht : Untouched s t) (hu : Untouched s u) : Untouched s (if c then t else u) := by
  split
  · exact ht
  · exact hu

theorem emit (h : Untouched s t) (cmd : Instr) : Untouched s (t.emit cmd) := h.write

theorem applyConfig (h : Untouched s t) (e : ModeEntry) : Untouched s (t.applyConfig e) := by
  rw [t.applyConfig_eq]
  exact h.write

theorem transition (h : Untouched s t) (new : OpState) : Untouched s (t.transition new) := by
  obtain ⟨-, hbutton, -, -, -, -, -, -, hblink, hpulse, hrainbow, hshift, hclap, hbright, hwave, -⟩ :=
    t.transition_frame new
  refine h.write hbutton fun m => ?_
  cases m with
  | static => rfl
  | blink => exact hblink
  | pulse => exact hpulse
  | rainbow => exact hrainbow
  | colorShift => exact hshift
  | clapToggle => exact hclap
  | clapPulse => exact hbright
  | waveRainbow => exact hwave

end Untouched

/-! The actions that touch neither. -/

theorem detect_untouched (s : State) : Untouched s (detect s) := by
  obtain h | h | ⟨-, h⟩ := detect_cases s <;> rw [h] <;> exact (Untouched.refl s).write

theorem applyBroadcast_untouched (s : State) (d : BitVec 21) (e : ModeEntry) : Untouched s (applyBroadcast s d e) :=
  .write (.applyConfig (.ite ((Untouched.refl s).transition .broadcastReceiving) (.refl s)) e)

theorem sampleBattery_untouched (s : State) (w : Half) : Untouched s (sampleBattery s w) := by
  have hpct : Untouched s { s with battPct := battPercent s.config w } := (Untouched.refl s).write
  exact .ite (hpct.transition .shuttingDown) (.ite (hpct.emit _) hpct)

theorem selectGroup_untouched (s : State) (g : Fin 6) : Untouched s (selectGroup s g) :=
  .emit (.emit (.write (.refl s)) _) _

theorem longPress_untouched (s : State) : Untouched s (longPress s) := by
  have hlp : Untouched s { s with lpArmed := false } := (Untouched.refl s).write
  unfold longPress
  refine .ite (.refl s) ?_
  dsimp only
  split
  · exact hlp.transition .advertising
  · exact hlp.transition .idle
  · exact hlp.transition .idle
  all_goals exact hlp -- the three states in which a long press only clears `lp_armed`

theorem powerOff_untouched (s : State) : Untouched s (powerOff s) :=
  .ite (.refl s) (((Untouched.refl s).emit .ledDriverOff).emit .inputIrqOff |>.emit .platformOff).write

/-- Every expiry rule but the tick's. -/
theorem expire_untouched (s : State) {i : TimerId} (hi : i ≠ .tick := by nofun) : Untouched s (expire i s) := by
  cases i with
  | long => exact longPress_untouched s
  | cool => exact .refl s
  | batt => exact .ite (.refl s) ((Untouched.refl s).emit .battSampleReq)
  | adv => exact .ite ((Untouched.refl s).transition .idle) (.refl s)
  | off => exact powerOff_untouched s
  | tick => exact absurd rfl hi

/-! The tick rules: each moves the counter of its own mode only (R37, R199 to R207). -/

/-- The tick rule of a mode. -/
def tickRule : AnimMode → State → State
  | .static => tickStatic
  | .blink => tickBlink
  | .pulse => tickPulse
  | .rainbow => tickRainbow
  | .colorShift => tickColorShift
  | .clapToggle => tickClapToggle
  | .clapPulse => tickClapPulse
  | .waveRainbow => tickWaveRainbow

theorem animationTick_eq (s : State) : animationTick s = tickRule s.animMode s := by
  unfold animationTick
  cases s.animMode <;> rfl

theorem exec_row (m : AnimMode) (s : State) : exec m.row s = .next (tickRule m s) := by
  cases m <;> rfl

theorem counterOf_tickRule {m n : AnimMode} (h : n ≠ m) (s : State) : counterOf n (tickRule m s) = counterOf n s := by
  cases m with
  | clapToggle =>
    simp only [tickRule, tickClapToggle]
    split <;> cases n <;> trivial
  | waveRainbow =>
    simp only [tickRule, tickWaveRainbow]
    split <;> cases n <;> trivial
  | _ => cases n <;> trivial

/-- X_TICK (R154): `button_mode` stays, and a counter moves only in a live tick of its mode. -/
theorem animationExpiry_touches (s : State) :
    (animationExpiry s).buttonMode = s.buttonMode ∧
    ∀ m, counterOf m (animationExpiry s) ≠ counterOf m s →
      Alive s ∧ s.animMode = m ∧ (animationExpiry s).animMode = m := by
  obtain ⟨-, -, -, hbutton, hmode, -⟩ := animationTick_frame s
  unfold animationExpiry
  split
  · exact ⟨rfl, fun m hm => absurd rfl hm⟩
  · next hdead =>
    have halive := s.dead_eq_false_iff.mp (Bool.eq_false_iff.mpr hdead)
    refine ⟨hbutton, fun m hm => ?_⟩
    have hactive : s.animMode = m := by
      by_contra hne
      rw [animationTick_eq] at hm
      exact hm (counterOf_tickRule (Ne.symm hne) s)
    exact ⟨halive, hactive, hmode.trans hactive⟩

/-! TB (R138): the tick is the last of the six expiries. -/

theorem fireIfExpired_untouched (before : Timers) (s : State) {i : TimerId} (hi : i ≠ .tick) :
    Untouched s (fireIfExpired before s i) :=
  .ite (expire_untouched s hi) (.refl s)

theorem foldl_fire_untouched (before : Timers) (l : List TimerId) (s : State) (hl : .tick ∉ l) :
    Untouched s (l.foldl (fireIfExpired before) s) := by
  induction l generalizing s with
  | nil => exact .refl s
  | cons i l ih =>
    rw [List.mem_cons, not_or] at hl
    obtain ⟨hi, hl⟩ := hl
    exact (fireIfExpired_untouched before s (Ne.symm hi)).trans (ih _ hl)

theorem execTb_touches {s t : State} (he : execTb s = .next t) :
    t.buttonMode = s.buttonMode ∧
    ∀ m, counterOf m t ≠ counterOf m s →
      Alive s ∧ t.animMode = m ∧ s.timers.tick.armed = true ∧ s.timers.tick.rem.toNat ≤ 1 := by
  cases he
  split
  · exact ⟨rfl, fun m hm => absurd rfl hm⟩
  · next hdead =>
    have halive := s.dead_eq_false_iff.mp (Bool.eq_false_iff.mpr hdead)
    have hearlier : Untouched s ([.long, .cool, .batt, .adv, .off].foldl (fireIfExpired s.timers) s.countTimers) :=
      (Untouched.refl s).write.trans (foldl_fire_untouched _ _ s.countTimers (by decide))
    have hlast : timerOrder.foldl (fireIfExpired s.timers) s.countTimers = fireIfExpired s.timers
      ([.long, .cool, .batt, .adv, .off].foldl (fireIfExpired s.timers) s.countTimers) .tick := rfl
    rw [hlast]
    generalize [TimerId.long, .cool, .batt, .adv, .off].foldl (fireIfExpired s.timers) s.countTimers = u at hearlier
    unfold fireIfExpired
    split
    · next hfire =>
      obtain ⟨hbutton, hcounters⟩ := animationExpiry_touches u
      refine ⟨hbutton.trans hearlier.buttonMode, fun m hm => ?_⟩
      rw [← hearlier.counters m] at hm
      obtain ⟨-, -, hmode⟩ := hcounters m hm
      obtain ⟨hexp, -⟩ := (Bool.and_eq_true _ _).mp hfire
      have hexp : s.timers.tick.expires = true := hexp
      rw [Timer.expires_iff, Bool.and_eq_true, decide_eq_true_eq] at hexp
      exact ⟨halive, hmode, hexp⟩
    · exact ⟨hearlier.buttonMode, fun m hm => absurd (hearlier.counters m) hm⟩

/-! BTN_UP (R142, R143). -/

theorem shortPress_touches (s : State) :
    (∀ m, counterOf m (shortPress s) = counterOf m s) ∧
    ((shortPress s).buttonMode = s.buttonMode ∨
      s.opState = .idle ∧ (shortPress s).buttonMode = nextButtonMode s.buttonMode) := by
  unfold shortPress
  split
  · next hop =>
    have hafter := (Untouched.refl { s with buttonMode := nextButtonMode s.buttonMode }).applyConfig
      (s.config.buttonMode (nextButtonMode s.buttonMode))
    refine ⟨fun m => (hafter.counters m).trans ?_, .inr ⟨hop, hafter.buttonMode⟩⟩
    cases m <;> rfl
  · have hidle := (Untouched.refl s).transition .idle
    exact ⟨hidle.counters, .inl hidle.buttonMode⟩
  all_goals exact ⟨fun _ => rfl, .inl rfl⟩ -- the four states in which a short press does nothing

theorem execBtnUp_touches {a : Byte} {s t : State} (he : execBtnUp a s = .next t) :
    (∀ m, counterOf m t = counterOf m s) ∧
    (t.buttonMode = s.buttonMode ∨
      s.opState = .idle ∧ a = s.config.buttonPin ∧ t.buttonMode = nextButtonMode s.buttonMode) := by
  have self : (∀ m, counterOf m s = counterOf m s) ∧ (s.buttonMode = s.buttonMode ∨
      s.opState = .idle ∧ a = s.config.buttonPin ∧ s.buttonMode = nextButtonMode s.buttonMode) :=
    ⟨fun _ => rfl, .inl rfl⟩
  cases he
  split
  · exact self
  split
  · exact self
  next hpin =>
  split
  · exact self
  have hrelease : Untouched s { s.cancel .long with lpArmed := false } := (Untouched.refl s).write
  obtain ⟨hcounters, hbutton⟩ := shortPress_touches { s.cancel .long with lpArmed := false }
  refine ⟨fun m => (hcounters m).trans (hrelease.counters m), hbutton.imp_right ?_⟩
  rintro ⟨hop, hnext⟩
  exact ⟨hop, Decidable.not_not.mp hpin, hnext⟩

/-! All rows. -/

theorem execLinkCmd_untouched {mode red green blue : Byte} {s t : State}
    (h : execLinkCmd mode red green blue s = .next t) : Untouched s t := by
  refine holds_of_next h (.ite (.refl s) (.ite (.refl s) ?_))
  split
  · exact (Untouched.refl s).applyConfig _
  · exact .refl s

theorem execBcast_untouched {ch : Byte} {payload : BitVec 63} {s t : State}
    (h : execBcast ch payload s = .next t) : Untouched s t := by
  refine holds_of_next h (.ite (.refl s) (.ite (.refl s) ?_))
  dsimp only
  split
  · exact .refl s
  · exact .ite (.refl s) (applyBroadcast_untouched s _ _)

theorem execGroupSet_untouched {a : Byte} {s t : State} (h : execGroupSet a s = .next t) : Untouched s t := by
  refine holds_of_next h (.ite (.refl s) ?_)
  split
  · exact selectGroup_untouched s _
  · exact .refl s

/-- The rows that may move `button_mode` or a counter. -/
inductive MayTouch : Instr → Prop where
  | btnUp (a : Byte) : MayTouch (.btnUp a)
  | tb : MayTouch .tb
  | xTick : MayTouch .xTick
  | row (m : AnimMode) : MayTouch m.row

theorem exec_touches {i : Instr} {s t : State} (h : exec i s = .next t) :
    Untouched s t ∨ MayTouch i := by
  have self : Untouched s s := .refl s
  cases i with
  | btnUp a => exact .inr (.btnUp a)
  | tb => exact .inr .tb
  | xTick => exact .inr .xTick
  | modeStatic => exact .inr (.row .static)
  | modeBlink => exact .inr (.row .blink)
  | modePulse => exact .inr (.row .pulse)
  | modeRainbow => exact .inr (.row .rainbow)
  | modeColorShift => exact .inr (.row .colorShift)
  | modeClapToggle => exact .inr (.row .clapToggle)
  | modeClapPulse => exact .inr (.row .clapPulse)
  | modeWaveRainbow => exact .inr (.row .waveRainbow)
  | nop => exact .inl (holds_of_next h self)
  | btnDown a => exact .inl (holds_of_next h (.ite self (.ite self self.write)))
  | accel x y z =>
    have hjerk : Untouched s (updateJerk s x y z) := self.write
    exact .inl (holds_of_next h (.ite self (hjerk.trans (detect_untouched _))))
  | linkUp => exact .inl (holds_of_next h (.ite self (.ite (self.transition .linkConnected) self)))
  | linkDown => exact .inl (holds_of_next h (.ite self (.ite (self.transition .idle) self)))
  | linkCmd mode red green blue => exact .inl (execLinkCmd_untouched h)
  | bcast ch payload => exact .inl (execBcast_untouched h)
  | bcastDrop => exact .inl (holds_of_next h (.ite self (.ite (self.transition .idle) self)))
  | batt w => exact .inl (holds_of_next h (.ite self (sampleBattery_untouched s w)))
  | ioFail a => exact .inl (holds_of_next h (.ite self self.write))
  | groupSet a => exact .inl (execGroupSet_untouched h)
  | xLong | xCool | xBatt | xAdv | xOff => exact .inl (holds_of_next h (expire_untouched s))
  | waveStart => exact .inl (holds_of_next h self.write)
  | sensorPwr b => exact .inl (holds_of_next h self.write)
  | radioAdvStart | radioAdvStop | radioDisconnect | radioStatus n pct | radioSetGroup group channel
  | storeGroup group | platformOff | ledDriverOff | inputIrqOff | battSampleReq | fatalReport src =>
    exact .inl (holds_of_next h (self.emit _))
  | codeZero | codeShort | codeLong => exact .inl (holds_of_next h self.write)

/-- A mode and its row stand at the same place in the lists of R96. -/
theorem modes_modeRows (m : AnimMode) : modes[m.code]? = some m ∧ modeRows[m.code]? = some m.row := by
  cases m <;> exact ⟨rfl, rfl⟩

/-- Settles O40: of the rows of `MayTouch`, BTN_UP moves no counter and each tick moves the one of its mode. -/
theorem onlyTicksMoveTheCounters : Obligations.OnlyTicksMoveTheCounters := by
  intro i s t m he hmoved
  obtain hsame | hrow := exec_touches he
  · exact absurd (hsame.counters m) hmoved
  cases hrow with
  | btnUp a =>
    obtain ⟨hsame, -⟩ := execBtnUp_touches he
    exact absurd (hsame m) hmoved
  | tb =>
    obtain ⟨-, hcounters⟩ := execTb_touches he
    obtain ⟨halive, hmode, hexp⟩ := hcounters m hmoved
    exact .inr ⟨halive, hmode, .inr ⟨rfl, hexp⟩⟩
  | xTick =>
    cases he
    obtain ⟨-, hcounters⟩ := animationExpiry_touches s
    obtain ⟨halive, hactive, hmode⟩ := hcounters m hmoved
    exact .inr ⟨halive, hmode, .inl ⟨rfl, hactive⟩⟩
  | row n =>
    rw [exec_row] at he
    cases he
    have hown : m = n := by
      by_contra hne
      exact hmoved (counterOf_tickRule hne s)
    exact .inl ⟨m.code, hown ▸ modes_modeRows m⟩

/-- Settles O41: of the rows of `MayTouch` only BTN_UP moves `button_mode`, by its short press in Idle. -/
theorem onlyShortPressInIdleMovesTheButtonMode : Obligations.OnlyShortPressInIdleMovesTheButtonMode := by
  intro i s t hport he hmoved
  obtain hsame | hrow := exec_touches he
  · exact absurd hsame.buttonMode hmoved
  cases hrow with
  | btnUp a =>
    obtain ⟨-, hsame | ⟨hop, rfl, hnext⟩⟩ := execBtnUp_touches he
    · exact absurd hsame hmoved
    · exact ⟨hop, rfl, congrArg Fin.val hnext⟩
  | tb =>
    obtain ⟨hsame, -⟩ := execTb_touches he
    exact absurd hsame hmoved
  | xTick => cases hport -- X_TICK stands at the timer bank
  | row n => cases n <;> cases hport -- a mode is no event

/-! Reset (R44). -/

/-- Every bit of a dark pixel is a short code (R222). -/
theorem encodePixel_black (c : Cfg) (hsv : HSV) :
    encodePixel c ⟨black, hsv⟩ = List.replicate 24 (codeShortWord c) := by
  simp [encodePixel, encodeByte, dataCode, black, List.replicate]

theorem encodePixels_black (c : Cfg) (n : Nat) (hsv : HSV) : encodePixels c (List.replicate n ⟨black, hsv⟩) =
    List.replicate c.resetCodes codeZeroWord ++ List.replicate (n * 24) (codeShortWord c) := by
  rw [encodePixels, List.flatMap_replicate, encodePixel_black, List.flatten_replicate_replicate]

/-- The reference reset frame is four dark pixels. -/
theorem reset_waveBuf : State.reset.waveBuf = List.replicate 48 0x8000#16 ++ List.replicate 96 0x8008#16 :=
  encodePixels_black CfgRef 4 _

/-- Settles O34: the table is the definition of the reset state, except for the codes of the reference buffer. -/
theorem resetHoldsTheTable : Obligations.ResetHoldsTheTable := by
  refine ⟨fun c => ⟨rfl, rfl, rfl, rfl, rfl, rfl, rfl, rfl⟩, ?_⟩
  exact ⟨rfl, rfl, rfl, rfl, rfl, rfl, rfl, rfl, rfl, rfl, rfl, rfl, rfl, rfl, rfl, rfl, rfl, rfl, rfl, rfl, rfl, rfl,
    rfl, rfl, rfl, rfl, rfl, reset_waveBuf, rfl, rfl⟩

end Sys2Proof.Machine
end

section
/-! PROOFS. The waveform buffer (20_memory.md; R62, R65): obligation O53. A buffer is read in three layers: the
quiescent codes, the 24 codes of each pixel, and the 8 codes of each colour byte. -/

namespace Sys2Proof

/-- Colour byte `j` of a pixel: 0 green, 1 red, 2 blue (R65). -/
def Pixel.colourByte (q : Pixel) : Fin 3 → Byte
  | 0 => q.rgb.g
  | 1 => q.rgb.r
  | 2 => q.rgb.b

/-- R108, with the code as a number. -/
theorem dataCode_eq (c : Cfg) (bit : Bool) :
    dataCode c bit = BitVec.ofNat 16 (0x8000 + if bit then c.longTicks else c.shortTicks) := by
  cases bit <;> rfl

theorem encodeByte_length (c : Cfg) (x : Byte) : (encodeByte c x).length = 8 := by
  simp [encodeByte]

/-- Bit `b` of a byte stands `7 - b` places after its first code (R221). -/
theorem encodeByte_get (c : Cfg) (x : Byte) {b : Nat} (hb : b ≤ 7) :
    (encodeByte c x)[7 - b]? = some (dataCode c (x.getLsbD b)) := by
  interval_cases b <;> rfl

/-- The codes of colour byte `j` stand `8 * j` places after the pixel's first code (R65). -/
theorem encodePixel_get (c : Cfg) (q : Pixel) (j : Fin 3) {k : Nat} (hk : k < 8) :
    (encodePixel c q)[8 * j + k]? = (encodeByte c (q.colourByte j))[k]? := by
  simp only [encodePixel, List.getElem?_append, List.length_append, encodeByte_length]
  match j with
  | 0 => simp [hk, show k < 16 by omega, Pixel.colourByte]
  | 1 => simp [show 8 + k < 16 by omega, Pixel.colourByte]
  | 2 => simp [show ¬ 16 + k < 16 by omega, Pixel.colourByte]

/-- The quiescent codes come first (R62). -/
theorem encodePixels_get_prefix (c : Cfg) (px : List Pixel) {k : Nat} (hk : k < c.resetCodes) :
    (encodePixels c px)[k]? = some codeZeroWord := by
  rw [encodePixels, List.getElem?_append_left (by simpa using hk), List.getElem?_replicate_of_lt hk]

/-- Behind the quiescent codes the buffer is the codes of the pixels (R62). -/
theorem encodePixels_get_data (c : Cfg) (px : List Pixel) (k : Nat) :
    (encodePixels c px)[c.resetCodes + k]? = (px.flatMap (encodePixel c))[k]? := by
  rw [encodePixels, List.getElem?_append_right (by simp)]
  simp

/-- R62: what stands at the index of bit `b` of colour byte `j` of pixel `p`. -/
theorem encodePixels_get_waveIndex (c : Cfg) {px : List Pixel} {p b : Nat} {q : Pixel} (hq : px[p]? = some q)
    (hb : b ≤ 7) (j : Fin 3) :
    (encodePixels c px)[waveIndex c p j b]? = some (dataCode c ((q.colourByte j).getLsbD b)) :=
  calc (encodePixels c px)[waveIndex c p j b]?
      = (encodePixels c px)[c.resetCodes + (24 * p + (8 * j + (7 - b)))]? := by simp only [waveIndex, Nat.add_assoc]
    _ = (px.flatMap (encodePixel c))[24 * p + (8 * j + (7 - b))]? := encodePixels_get_data c px _
    _ = (encodePixel c q)[8 * j + (7 - b)]? := flatMap_encodePixel_get c px p _ q hq (by omega)
    _ = (encodeByte c (q.colourByte j))[7 - b]? := encodePixel_get c q j (by omega)
    _ = some (dataCode c ((q.colourByte j).getLsbD b)) := encodeByte_get c _ hb

/-- Settles O53: the prefix, then `encodePixels_get_waveIndex` at each of the three colour bytes. -/
theorem everyBitHasItsIndex : Obligations.EveryBitHasItsIndex := by
  intro c px p b q hq hb
  simp only [← dataCode_eq]
  have hbit := encodePixels_get_waveIndex c hq hb
  exact ⟨fun k hk => encodePixels_get_prefix c px hk, hbit 0, hbit 1, hbit 2⟩

end Sys2Proof
end

section
/-! PROOFS. What a step takes from the inbox (R70, R130; logs 2 and 6): obligations O5 and O6. -/

namespace Sys2Proof.Machine

theorem fetch_eq_none {s : State} (h : s.inbox = []) : fetch s = none := by
  simp only [fetch, h]

/-- With nothing to fetch a step waits (log 6). -/
theorem step_of_fetch_none {s : State} (h : fetch s = none) : step s = .next s := by
  simp only [step, h]

/-- A fetched frame that decodes at its port is run on the state without it (R70, R130). -/
theorem step_of_decode {s u : State} {a : Arrival} {i : Instr} (hfetch : fetch s = some (a, u))
    (hdecode : decode u.config a.port a.bytes = .ok i) : step s = exec i u := by
  simp only [step, hfetch, hdecode]

/-- Settles O5: the fetch takes the first arrival and leaves the configuration, so the decoder reads the same bytes. -/
theorem stepRunsTheDecodedRow : Obligations.StepRunsTheDecodedRow := by
  intro s a rest i hinbox hdecode
  have hfetch : fetch s = some (a, { s with inbox := rest }) := (fetch_eq_some s _ a).mpr ⟨rest, hinbox, rfl⟩
  exact step_of_decode hfetch hdecode

/-- Settles O6: an empty inbox fetches nothing. -/
theorem stepWaitsForAnEvent : Obligations.StepWaitsForAnEvent := fun _ hinbox =>
  step_of_fetch_none (fetch_eq_none hinbox)

end Sys2Proof.Machine
end

section
/-! PROOFS. Encoding and decoding (R91 to R98, R101, R106, R108): obligations O1, O2 and O3. Three layers:
the byte order, the frame formats and the duty-cycle words, each undone in both directions; then the rows and the event
port's decoder. -/

namespace Sys2Proof

/-! The byte order (R67, R98, R101). Multi-byte operands are numbers to the base 256, lowest digit first. -/

theorem toLE16_ofLE16 (lo hi : Byte) : toLE16 (ofLE16 lo hi) = [lo, hi] := by
  simp only [toLE16, ofLE16, BitVec.extractLsb'_append_eq_right, BitVec.extractLsb'_append_eq_left]

/-- A byte appended below is the lowest digit to the base 256. -/
theorem append_byte_toNat {n : Nat} (x : BitVec n) (b : Byte) : (x ++ b).toNat = b.toNat + 256 * x.toNat := by
  rw [BitVec.toNat_append, ← Nat.shiftLeft_add_eq_or_of_lt b.isLt, Nat.shiftLeft_eq]
  omega

/-- R98: `P = sum over i of byte(2 + i) × 256^i`, without its bit 63. -/
theorem ofLE64_toNat (b0 b1 b2 b3 b4 b5 b6 b7 : Byte) :
    (ofLE64 b0 b1 b2 b3 b4 b5 b6 b7).toNat =
      (b0.toNat + 256 * (b1.toNat + 256 * (b2.toNat + 256 * (b3.toNat + 256 * (b4.toNat + 256 * (b5.toNat +
        256 * (b6.toNat + 256 * b7.toNat))))))) % 2 ^ 63 := by
  simp only [ofLE64, BitVec.extractLsb'_toNat, append_byte_toNat, Nat.shiftRight_zero]

/-- R101: byte `i` of the composite is digit `i` of the payload to the base 256. -/
theorem payloadByte_toNat (P : BitVec 63) {i : Nat} (hi : i < 8) :
    (payloadByte P i).toNat = P.toNat / 2 ^ (8 * i) % 256 := by
  rw [payloadByte, BitVec.extractLsb'_setWidth_of_le (by omega), BitVec.extractLsb'_toNat, Nat.shiftRight_eq_div_pow]

theorem toLE64_eq (P : BitVec 63) : toLE64 P =
    [payloadByte P 0, payloadByte P 1, payloadByte P 2, payloadByte P 3, payloadByte P 4, payloadByte P 5,
      payloadByte P 6, payloadByte P 7] := rfl

/-- The eight bytes of a payload give the payload back (R98, R101). -/
theorem ofLE64_payloadByte (P : BitVec 63) :
    ofLE64 (payloadByte P 0) (payloadByte P 1) (payloadByte P 2) (payloadByte P 3) (payloadByte P 4) (payloadByte P 5)
      (payloadByte P 6) (payloadByte P 7) = P := by
  have := P.isLt
  apply BitVec.eq_of_toNat_eq
  simp only [ofLE64_toNat, payloadByte_toNat P, Nat.reduceLT, Nat.reduceMul, Nat.reducePow]
  omega

theorem and_0x7F_toNat (b : Byte) : (b &&& 0x7F#8).toNat = b.toNat % 128 := by
  rw [BitVec.toNat_and]
  exact Nat.and_two_pow_sub_one_eq_mod b.toNat 7

/-- Eight bytes come back from their payload, but for bit 63 (R98, R101). -/
theorem toLE64_ofLE64 (b0 b1 b2 b3 b4 b5 b6 b7 : Byte) :
    toLE64 (ofLE64 b0 b1 b2 b3 b4 b5 b6 b7) = [b0, b1, b2, b3, b4, b5, b6, b7 &&& 0x7F#8] := by
  rw [toLE64_eq]
  simp only [List.cons.injEq, and_true, ← BitVec.toNat_inj, payloadByte_toNat, ofLE64_toNat, and_0x7F_toNat,
    Nat.reduceLT, Nat.reduceMul, Nat.reducePow]
  omega

/-! The frame formats (R91): what each reads from the bytes it writes, and which bytes it reads. -/

theorem formatE2_toLE16 (code : Byte) (f : Half → Instr) (w : Half) : formatE2 code f (toLE16 w) = .ok (f w) := by
  rw [toLE16, formatE2, ofLE16_toLE16]

theorem formatE6_toLE16 (code : Byte) (f : Half → Half → Half → Instr) (x y z : Half) :
    formatE6 code f (toLE16 x ++ toLE16 y ++ toLE16 z) = .ok (f x y z) := by
  simp only [toLE16, List.cons_append, List.nil_append, formatE6, ofLE16_toLE16]

theorem formatE9_toLE64 (code : Byte) (f : Byte → BitVec 63 → Instr) (ch : Byte) (P : BitVec 63) :
    formatE9 code f (ch :: toLE64 P) = .ok (f ch P) := by
  rw [toLE64_eq, formatE9, ofLE64_payloadByte]

section
variable {code : Byte} {ops : Frame} {i : Instr}

theorem of_formatE0_eq_ok {row : Instr} (h : formatE0 code row ops = .ok i) : i = row ∧ ops = [] := by
  unfold formatE0 at h
  split at h <;> cases h
  exact ⟨rfl, rfl⟩

theorem of_formatE1_eq_ok {f : Byte → Instr} (h : formatE1 code f ops = .ok i) : ∃ a, i = f a ∧ ops = [a] := by
  unfold formatE1 at h
  split at h <;> cases h
  exact ⟨_, rfl, rfl⟩

theorem of_formatE2_eq_ok {f : Half → Instr} (h : formatE2 code f ops = .ok i) : ∃ w, i = f w ∧ ops = toLE16 w := by
  unfold formatE2 at h
  split at h <;> cases h
  exact ⟨_, rfl, (toLE16_ofLE16 _ _).symm⟩

theorem of_formatE4_eq_ok {f : Byte → Byte → Byte → Byte → Instr} (h : formatE4 code f ops = .ok i) :
    ∃ mode red green blue, i = f mode red green blue ∧ ops = [mode, red, green, blue] := by
  unfold formatE4 at h
  split at h <;> cases h
  exact ⟨_, _, _, _, rfl, rfl⟩

theorem of_formatE6_eq_ok {f : Half → Half → Half → Instr} (h : formatE6 code f ops = .ok i) :
    ∃ x y z, i = f x y z ∧ ops = toLE16 x ++ toLE16 y ++ toLE16 z := by
  unfold formatE6 at h
  split at h <;> cases h
  exact ⟨_, _, _, rfl, by simp only [toLE16_ofLE16, List.cons_append, List.nil_append]⟩

/-- Format E9 alone does not give its bytes back: bit 7 of the last one is bit 63 of the composite (R98, R101). -/
theorem of_formatE9_eq_ok {f : Byte → BitVec 63 → Instr} (h : formatE9 code f ops = .ok i) :
    ∃ ch P, i = f ch P ∧ ops.length = 9 ∧ ch :: toLE64 P = ops.take 8 ++ [ops.getD 8 0#8 &&& 0x7F#8] := by
  unfold formatE9 at h
  split at h <;> cases h
  exact ⟨_, _, rfl, rfl, congrArg _ (toLE64_ofLE64 ..)⟩

end

/-! The duty-cycle words (R107, R108). -/

theorem decodeDuty_toLE16 (c : Cfg) (w : Code) :
    decodeDuty c (toLE16 w) =
      if w = codeZeroWord then .ok .codeZero
      else if w = codeShortWord c then .ok .codeShort
      else if w = codeLongWord c then .ok .codeLong
      else .error .noSuchDutyCode := by
  rw [toLE16, decodeDuty, ofLE16_toLE16]

/-- R3 keeps the three words apart. -/
theorem codeWords_ne {c : Cfg} (hc : c.WaveOk) :
    codeShortWord c ≠ codeZeroWord ∧ codeLongWord c ≠ codeZeroWord ∧ codeLongWord c ≠ codeShortWord c := by
  obtain ⟨hshort, hlong, hslot, hmax, -⟩ := hc
  refine ⟨dutyCode_ne ?_ ?_ ?_, dutyCode_ne ?_ ?_ ?_, dutyCode_ne ?_ ?_ ?_⟩ <;> omega

theorem decodeDuty_codeWords {c : Cfg} (hc : c.WaveOk) :
    decodeDuty c (toLE16 codeZeroWord) = .ok .codeZero ∧ decodeDuty c (toLE16 (codeShortWord c)) = .ok .codeShort ∧
      decodeDuty c (toLE16 (codeLongWord c)) = .ok .codeLong := by
  obtain ⟨hshort, hlong, hdiffer⟩ := codeWords_ne hc
  simp only [decodeDuty_toLE16, hshort, hlong, hdiffer, if_true, if_false, and_self]

/-- Settles O1, row by row: only a row with a multi-byte operand and a row that is a duty-cycle word need a lemma. -/
theorem everyRowDecodesToItself : Obligations.EveryRowDecodesToItself := by
  intro c ⟨hwave, _⟩ i
  obtain ⟨hzero, hshort, hlong⟩ := decodeDuty_codeWords hwave
  cases i with
  | accel x y z => exact formatE6_toLE16 0x04#8 .accel x y z
  | bcast ch P => exact formatE9_toLE64 0x08#8 .bcast ch P
  | batt w => exact formatE2_toLE16 0x0A#8 .batt w
  | codeZero => exact hzero
  | codeShort => exact hshort
  | codeLong => exact hlong
  | _ => rfl -- `encode` writes the row's bytes out

/-! The event port's decoder (R90 to R95). -/

theorem byte_of_toNat {b : Byte} {n : Nat} (h : b.toNat = n) : b = BitVec.ofNat 8 n := by
  rw [← h, BitVec.ofNat_toNat, BitVec.setWidth_eq]

/-- A frame that decodes is what its event is sent as, or it is a BCAST frame, which agrees but for bit 63. -/
theorem of_decodeEvent_eq_ok (c : Cfg) {bs : Frame} {i : Instr} (h : decodeEvent bs = .ok i) :
    (encode c i = bs ∧ ∀ ch P, i ≠ .bcast ch P) ∨
      ∃ ch P, i = .bcast ch P ∧ bs.head? = some 0x08#8 ∧ bs.length = 10 ∧
        encode c i = bs.take 9 ++ [bs.getD 9 0#8 &&& 0x7F#8] := by
  unfold decodeEvent at h
  split at h
  · cases h
  next code ops =>
    split at h
    case h_14 => cases h -- a reserved code
    all_goals obtain rfl := byte_of_toNat ‹code.toNat = _›
    case h_1 | h_2 | h_6 | h_7 | h_10 => -- E0
      obtain ⟨rfl, rfl⟩ := of_formatE0_eq_ok h
      exact .inl ⟨rfl, nofun⟩
    case h_3 | h_4 | h_12 | h_13 => -- E1
      obtain ⟨a, rfl, rfl⟩ := of_formatE1_eq_ok h
      exact .inl ⟨rfl, nofun⟩
    case h_5 => -- ACCEL
      obtain ⟨x, y, z, rfl, rfl⟩ := of_formatE6_eq_ok h
      exact .inl ⟨rfl, nofun⟩
    case h_8 => -- LINK_CMD
      obtain ⟨mode, red, green, blue, rfl, rfl⟩ := of_formatE4_eq_ok h
      exact .inl ⟨rfl, nofun⟩
    case h_9 => -- BCAST
      obtain ⟨ch, P, rfl, hlength, hsent⟩ := of_formatE9_eq_ok h
      exact .inr ⟨ch, P, rfl, rfl, congrArg (· + 1) hlength, congrArg (_ :: ·) hsent⟩
    case h_11 => -- BATT
      obtain ⟨w, rfl, rfl⟩ := of_formatE2_eq_ok h
      exact .inl ⟨rfl, nofun⟩

/-- Settles O2: the two cases of `of_decodeEvent_eq_ok`. -/
theorem decodedEventIsItsFrame : Obligations.DecodedEventIsItsFrame := by
  intro c bs i h
  rcases of_decodeEvent_eq_ok c h with ⟨hsame, hne⟩ | ⟨ch, P, rfl, -, -, hsent⟩
  · exact ⟨Machine.decodeEvent_port h, fun ch P hi => absurd hi (hne ch P), fun _ => hsame⟩
  · exact ⟨rfl, fun _ _ _ => hsent, fun hne => absurd rfl (hne ch P)⟩

/-- Settles O3: six closed frames, each read by the decoder of its port. -/
theorem writtenFramesDecode : Obligations.WrittenFramesDecode :=
  ⟨rfl, rfl, rfl, rfl, rfl, rfl⟩

end Sys2Proof
end

section
/-! PROOFS. Malformed and reserved frames (R94, R95): obligation O4. What decodes has the length of its code. -/

namespace Sys2Proof.Machine

open Sys2Proof.Claims

theorem encode_eventLength (c : Cfg) {i : Instr} (hport : i.port = .event) :
    ∃ code, (encode c i).head? = some code ∧ eventLengths[code.toNat]? = some (encode c i).length := by
  cases i with
  | nop | tb | btnDown | btnUp | accel | linkUp | linkDown | linkCmd | bcast | bcastDrop | batt | ioFail | groupSet =>
    exact ⟨_, rfl, rfl⟩
  | _ => cases hport -- no event

theorem decodeEvent_eventLength {bs : Frame} {i : Instr} (h : decodeEvent bs = .ok i) :
    ∃ code, bs.head? = some code ∧ eventLengths[code.toNat]? = some bs.length := by
  rcases of_decodeEvent_eq_ok CfgRef h with ⟨rfl, -⟩ | ⟨ch, P, -, hcode, hlength, -⟩
  · exact encode_eventLength CfgRef (decodeEvent_port h)
  · exact ⟨0x08#8, hcode, hlength ▸ rfl⟩

theorem step_of_decode_error {s u : State} {a : Arrival} {e : DecodeError} (hfetch : fetch s = some (a, u))
    (hdecode : decode u.config a.port a.bytes = .error e) : step s = undecodable a u := by
  simp only [step, hfetch, hdecode]

/-- Settles O4: a frame whose length is not its code's does not decode, and the event port ignores what does not. -/
theorem malformedFrameChangesNothing : Obligations.MalformedFrameChangesNothing := by
  intro s bs rest hinbox hlength
  have hfetch : fetch s = some (⟨.event, bs⟩, { s with inbox := rest }) :=
    (fetch_eq_some s _ _).mpr ⟨rest, hinbox, rfl⟩
  cases hdecode : decodeEvent bs with
  | ok i =>
    obtain ⟨code, hcode, hformat⟩ := decodeEvent_eventLength hdecode
    exact absurd hformat (hlength code hcode)
  | error e => exact step_of_decode_error hfetch hdecode

end Sys2Proof.Machine
end

section
/-! PROOFS. The two output ports: the command rows (R105, R106), one bit slot of a code word and the line of the
waveform port (R110, R228): obligations O31, O33 and O55. -/

namespace Sys2Proof

/-! One bit slot (R228). -/

theorem slotLevel_dutyCode (c : Cfg) {k : Nat} (hk : k ≤ c.slotTicks) (hmax : k ≤ 32767) (j : Nat) :
    slotLevel c (dutyCode k) j = decide (j < k) := by
  obtain ⟨hpol, hcmp⟩ := dutyCode_fields hmax
  rw [slotLevel, hpol, hcmp, Nat.min_eq_left hk, Bool.true_and]

/-- A slot is high for its compare value and low for the rest (R228). -/
theorem slotLevels_dutyCode (c : Cfg) {k : Nat} (hk : k ≤ c.slotTicks) (hmax : k ≤ 32767) :
    slotLevels c (dutyCode k) = List.replicate k true ++ List.replicate (c.slotTicks - k) false := by
  apply List.ext_getElem
  · simp [slotLevels, hk]
  · intro j _ _
    by_cases h : j < k <;> simp [slotLevels, slotLevel_dutyCode c hk hmax, List.getElem_append, h]

/-! The playbacks at a tick (R110). -/

theorem playsAt_iff (c : Cfg) (p : Nat × List Code) (n : Nat) : playsAt c p.1 p.2 n = true ↔ Claims.Playing c p n := by
  rw [playsAt, decide_eq_true_iff, Claims.Playing]

theorem filter_playsAt_eq_nil {c : Cfg} {playbacks : List (Nat × List Code)} {n : Nat}
    (h : ∀ p ∈ playbacks, ¬ Claims.Playing c p n) : playbacks.filter (fun p => playsAt c p.1 p.2 n) = [] :=
  List.filter_eq_nil_iff.mpr fun p hp hplays => h p hp ((playsAt_iff c p n).mp hplays)

theorem filter_playsAt_eq_singleton {c : Cfg} {earlier later : List (Nat × List Code)} {p : Nat × List Code} {n : Nat}
    (hp : Claims.Playing c p n) (h : ∀ q ∈ earlier ++ later, ¬ Claims.Playing c q n) :
    (earlier ++ p :: later).filter (fun q => playsAt c q.1 q.2 n) = [p] := by
  obtain ⟨hearlier, hlater⟩ := List.forall_mem_append.mp h
  rw [List.filter_append, List.filter_cons, if_pos ((playsAt_iff c p n).mpr hp), filter_playsAt_eq_nil hearlier,
    filter_playsAt_eq_nil hlater, List.nil_append]

/-- Settles O55: outside overlap the playbacks at the tick are none or one. -/
theorem portLineOutsideOverlap : Obligations.PortLineOutsideOverlap := by
  intro c playbacks n
  constructor
  · intro hnone
    simp only [portLine, filter_playsAt_eq_nil hnone]
  · rintro earlier later p rfl hp hothers
    simp only [portLine, filter_playsAt_eq_singleton hp hothers]

end Sys2Proof

namespace Sys2Proof.Machine

theorem State.playSlot_dutyCode (s : State) {k : Nat} (hk : k ≤ s.config.slotTicks) (hmax : k ≤ 32767) :
    s.playSlot (dutyCode k) = { s with
      line := s.line ++ (List.replicate k true ++ List.replicate (s.config.slotTicks - k) false) } := by
  rw [State.playSlot, slotLevels_dutyCode s.config hk hmax]

/-- Settles O33: the compare values 0, `SHORT_TICKS` and `LONG_TICKS` fit a slot by R3. -/
theorem codeWordPlaysOneSlot : Obligations.CodeWordPlaysOneSlot := by
  intro s ⟨⟨_, hshort, hlong, hmax, _⟩, _⟩
  have hlong' : s.config.longTicks ≤ 32767 := by omega
  exact ⟨congrArg _ (s.playSlot_dutyCode (Nat.zero_le _) (Nat.zero_le _)),
    congrArg _ (s.playSlot_dutyCode (hshort.trans hlong).le (hshort.le.trans hlong')),
    congrArg _ (s.playSlot_dutyCode hlong.le hlong')⟩

/-- A command row appends its own frame (R105), except for the two that do more: WAVE_START (R224) and SENSOR_PWR
(R133). -/
theorem exec_command (s : State) {i : Instr} (hport : i.port = .command) (hwave : i ≠ .waveStart)
    (hsensor : ∀ b, i ≠ .sensorPwr b) :
    exec i s = .next { s with cmdOut := s.cmdOut ++ [encode s.config i] } := by
  cases i with
  | waveStart => exact absurd rfl hwave
  | sensorPwr b => exact absurd rfl (hsensor b)
  | radioAdvStart | radioAdvStop | radioDisconnect | radioStatus | radioSetGroup | storeGroup | platformOff
  | ledDriverOff | inputIrqOff | battSampleReq | fatalReport => rfl
  | _ => cases hport -- no command

/-- Settles O31: `exec_command` for each of the eleven. -/
theorem commandAppendsItsFrame : Obligations.CommandAppendsItsFrame := by
  intro s a b
  refine ⟨?_, ?_, ?_, ?_, ?_, ?_, ?_, ?_, ?_, ?_, ?_⟩ <;> exact exec_command s rfl nofun nofun

end Sys2Proof.Machine
end

section
/-! PROOFS. The shared operations in the words of the statements (`Claims`): one equation for each operation (R133,
R135, R140, R197, R224, R266) and for phase 1 of TB (R138), and the two gates Dead and Deaf (R132). At the end the two
command rows that are operations (obligation O32). -/

namespace Sys2Proof.Machine

open Claims

/-! Frames and configurations. -/

theorem State.paint_render_eq (s : State) (p : Pixel) :
    (s.paint (fun _ => p)).render = framed s (List.replicate s.config.nPixels p) := by
  have hpx : (List.range s.config.nPixels).map (fun _ => p) = List.replicate s.config.nPixels p := by
    rw [List.map_const', List.length_range]
  rw [← hpx]
  rfl

/-- R134. -/
theorem needsSensor_eq (m : AnimMode) : needsSensor m = wantsSensor m := by
  cases m <;> rfl

/-- R197. -/
theorem State.setAnim_eq_shown (s : State) (e : ModeEntry) : s.setAnim e = shown s e :=
  (s.setConfigured e).paint_render_eq (Pixel.ofRGB e.color)

/-- R140. -/
theorem State.applyConfig_eq_applied (s : State) (e : ModeEntry) : s.applyConfig e = applied s e := by
  rw [State.applyConfig, State.setAnim_eq_shown, needsSensor_eq]
  rfl

/-! The transition (R135). -/

theorem State.exitEffect_eq_left (s : State) : s.exitEffect = left s := rfl

theorem left_config (s : State) : (left s).config = s.config := by
  unfold left
  split <;> rfl

/-- Outside Advertising nothing is left. -/
theorem left_of_ne {s : State} (h : s.opState ≠ .advertising) : left s = s := if_neg h

theorem State.transition_idle (s : State) : s.transition .idle = toIdle s := by
  rw [State.transition, State.exitEffect_eq_left, State.entryEffect, State.applyConfig_eq_applied, left_config]
  rfl

theorem State.transition_linkConnected (s : State) :
    s.transition .linkConnected = { applied (left s) s.config.baselineLink with opState := .linkConnected } := by
  rw [State.transition, State.exitEffect_eq_left, State.entryEffect, State.applyConfig_eq_applied, left_config]

theorem State.transition_broadcastReceiving (s : State) :
    s.transition .broadcastReceiving = { left s with opState := .broadcastReceiving } := rfl

theorem State.transition_advertising {s : State} (h : s.opState ≠ .advertising) :
    s.transition .advertising = toAdvertising s := by
  rw [State.transition, State.exitEffect_eq_left, left_of_ne h, State.entryEffect, State.setAnim_eq_shown]
  simp only [toAdvertising, shown, framed, State.start, State.emit, State.setSensor_eq, List.append_assoc]
  rfl

theorem State.transition_shuttingDown (s : State) : s.transition .shuttingDown = toShuttingDown s := by
  rw [State.transition, State.exitEffect_eq_left, State.entryEffect, State.applyConfig_eq_applied]
  simp only [State.start, State.quiesce, State.cancel, applied, shown, framed, left_config, toShuttingDown]
  rfl

/-- R266. -/
theorem State.halt_eq_haltedWith (s : State) (src : Byte) : s.halt src = haltedWith s src := by
  rw [State.halt, State.paint_render_eq]
  rfl

/-! Phase 1 of TB (R138). -/

theorem Timer.count_eq_counted (x : Timer) (rep : Bool) (full : BitVec 32) : x.count rep full = counted x rep full := by
  unfold counted
  cases ha : x.armed with
  | false => exact x.count_off rep full ha
  | true =>
    by_cases hmore : 1 < x.rem.toNat
    · rw [x.count_more rep full ha hmore, if_pos rfl, if_pos hmore]
      congr 1
      bv_omega
    · rw [x.count_last rep full ha (by omega), if_pos rfl, if_neg hmore]
      rfl

theorem State.countTimers_eq (s : State) : s.countTimers = { s with timers := countedAll s.config s.timers } := by
  simp only [State.countTimers, Timer.count_eq_counted]
  rfl

/-- An armed timer that holds at least one millisecond expires at its last one. -/
theorem Timer.expires_eq_due {x : Timer} (h : x.armed = true → x.rem ≠ 0#32) : x.expires = due x := by
  rw [Timer.expires_iff, due]
  cases ha : x.armed with
  | false => rfl
  | true =>
    have hrem := h ha
    rw [Bool.true_and, Bool.true_and, decide_eq_decide]
    bv_omega

/-! The gates (R132). -/

theorem dead_of_not_alive {s : State} (h : ¬ Alive s) : s.dead = true := by
  rwa [← s.dead_eq_false_iff, Bool.not_eq_false] at h

theorem deaf_of_not_live {s : State} (h : ¬ Live s) : s.deaf = true := by
  rwa [← s.deaf_eq_false_iff, Bool.not_eq_false] at h

theorem deaf_of_dead {s : State} (h : s.dead = true) : s.deaf = true := by
  rw [State.deaf, h, Bool.true_or]

section

variable {α : Type} {x y : α} {s : State}

theorem ite_dead_of_alive (h : Alive s) : (if s.dead then x else y) = y :=
  if_neg (by simp [s.dead_eq_false_iff.mpr h])

theorem ite_deaf_of_live (h : Live s) : (if s.deaf then x else y) = y :=
  if_neg (by simp [s.deaf_eq_false_iff.mpr h])

end

/-- An event with a guard of its own acts in a live block whose guard holds. -/
theorem gated_pos {s t : State} {p : Prop} [Decidable p] (hlive : Live s) (hp : p) :
    (if s.deaf then s else if p then t else s) = t := by
  rw [ite_deaf_of_live hlive, if_pos hp]

theorem gated_neg {s t : State} {p : Prop} [Decidable p] (h : ¬ Live s ∨ ¬ p) :
    (if s.deaf then s else if p then t else s) = s := by
  split
  · rfl
  next hdeaf =>
    have hlive : Live s := s.deaf_eq_false_iff.mp (Bool.eq_false_iff.mpr hdeaf)
    exact if_neg (h.resolve_left (not_not.mpr hlive))

/-- Settles O32: SENSOR_PWR and WAVE_START are `SetSensor` and `Render` (log 3). -/
theorem sensorPowerAndWaveStart : Obligations.SensorPowerAndWaveStart :=
  fun _ => ⟨rfl, rfl, rfl⟩

end Sys2Proof.Machine
end

section
/-! PROOFS. The dispatcher and what it ignores (R131, R132): obligations O8, O9 and O10. -/

namespace Sys2Proof.Machine

open Claims

theorem exec_hasNext (i : Instr) (s : State) : ∃ t, exec i s = .next t := by
  cases i <;> exact ⟨_, rfl⟩

/-- Settles O8: what decodes is run, and what does not is ignored at the event port. -/
theorem everyEventHasASuccessor : Obligations.EveryEventHasASuccessor := by
  refine ⟨fun s bs rest hinbox => ?_, exec_hasNext⟩
  have hfetch : fetch s = some (⟨.event, bs⟩, { s with inbox := rest }) :=
    (fetch_eq_some s _ _).mpr ⟨rest, hinbox, rfl⟩
  cases hdecode : decode s.config .event bs with
  | ok i =>
    rw [step_of_decode hfetch hdecode]
    exact exec_hasNext i _
  | error e => exact ⟨_, step_of_decode_error hfetch hdecode⟩

/-- What Deaf ignores (R132). -/
theorem exec_of_deaf {i : Instr} {s : State} (hdeaf : s.deaf = true) (hport : i.port = .event := by rfl)
    (htb : i ≠ .tb := by nofun) (hfail : ∀ a, i ≠ .ioFail a := by nofun) : exec i s = .next s := by
  cases i with
  | nop => rfl
  | tb => exact absurd rfl htb
  | ioFail a => exact absurd rfl (hfail a)
  | btnDown | btnUp | accel | linkUp | linkDown | linkCmd | bcast | bcastDrop | batt | groupSet =>
    exact congrArg Host.Outcome.next (if_pos hdeaf)
  | _ => cases hport -- the rows of the other ports

/-- What Dead ignores (R132). -/
theorem exec_of_dead {i : Instr} {s : State} (hdead : s.dead = true) (hport : i.port = .event) :
    exec i s = .next s := by
  by_cases htb : i = .tb
  · rw [htb]
    exact congrArg Host.Outcome.next (if_pos hdead)
  by_cases hfail : ∃ a, i = .ioFail a
  · obtain ⟨a, rfl⟩ := hfail
    exact congrArg Host.Outcome.next (if_pos hdead)
  exact exec_of_deaf (deaf_of_dead hdead) hport htb (not_exists.mp hfail)

theorem exec_of_not_live {i : Instr} {s : State} (h : ¬ Live s) (hport : i.port = .event := by rfl)
    (htb : i ≠ .tb := by nofun) (hfail : ∀ a, i ≠ .ioFail a := by nofun) : exec i s = .next s :=
  exec_of_deaf (deaf_of_not_live h) hport htb hfail

/-- Settles O9. -/
theorem deadAndDeafIgnoreEvents : Obligations.DeadAndDeafIgnoreEvents := by
  intro i s hport
  constructor
  · intro h
    exact exec_of_dead (by simpa [State.dead] using h) hport
  · intro h htb hfail
    exact exec_of_deaf (by simpa [State.deaf, State.dead, or_assoc] using h) hport htb hfail

/-- Settles O10: both rows answer the state they are given. -/
theorem nopAndCooldownExpiryChangeNothing : Obligations.NopAndCooldownExpiryChangeNothing :=
  fun _ => ⟨rfl, rfl⟩

end Sys2Proof.Machine
end

section
/-! PROOFS. The events (R141 to R143, R145 to R149, R155 to R158): obligations O11 to O19. In a deaf block each is
ignored by `exec_of_not_live`; in a live one it does what the operations of the section before do. -/

namespace Sys2Proof.Machine

open Claims

/-! The button (R141 to R143). -/

theorem exec_btnDown {s : State} (hlive : Live s) : exec (.btnDown s.config.buttonPin) s =
    .next { s with timers := { s.timers with long := armed s.config.longPressMs }, lpArmed := true } :=
  congrArg Host.Outcome.next ((ite_deaf_of_live hlive).trans (if_neg (not_not.mpr rfl)))

/-- Settles O11. -/
theorem buttonDownArmsTheLongPress : Obligations.ButtonDownArmsTheLongPress := by
  intro s a
  constructor
  · rintro hlive rfl
    exact exec_btnDown hlive
  · intro hignored
    by_cases hlive : Live s
    · have hpin := hignored.resolve_left (not_not.mpr hlive)
      exact congrArg Host.Outcome.next ((ite_deaf_of_live hlive).trans (if_pos hpin))
    · exact exec_of_not_live hlive

theorem nextButtonMode_eq (m : Fin 9) : nextButtonMode m = m + 1 :=
  Fin.ext (Fin.val_add m 1).symm

/-- R143. -/
theorem shortPress_eq {s : State} (hlive : Live s) : shortPress s = afterShortPress s := by
  obtain ⟨-, hoff, hdown⟩ := hlive
  unfold shortPress afterShortPress
  cases hop : s.opState with
  | idle =>
    simp only [nextButtonMode_eq, State.applyConfig_eq_applied, if_true]
    rfl
  | advertising => exact s.transition_idle
  | linkConnected | broadcastReceiving => rfl
  | shuttingDown => exact absurd hop hdown
  | poweredOff => exact absurd hop hoff

/-- A release that ends an open press is a short press (R142). -/
theorem exec_btnUp {s : State} (hlive : Live s) (hpress : s.lpArmed = true) :
    exec (.btnUp s.config.buttonPin) s = .next (afterShortPress (released s)) := by
  have hopen : ¬ s.lpArmed = false := by simp [hpress]
  rw [← shortPress_eq (s := released s) hlive]
  exact congrArg Host.Outcome.next
    ((ite_deaf_of_live hlive).trans ((if_neg (not_not.mpr rfl)).trans (if_neg hopen)))

theorem exec_btnUp_ignored {s : State} {a : Byte} (h : ¬ Live s ∨ a ≠ s.config.buttonPin ∨ s.lpArmed = false) :
    exec (.btnUp a) s = .next s := by
  by_cases hlive : Live s
  · refine congrArg Host.Outcome.next ((ite_deaf_of_live hlive).trans ?_)
    split
    · rfl
    next hpin => exact if_pos ((h.resolve_left (not_not.mpr hlive)).resolve_left hpin)
  · exact exec_of_not_live hlive

/-- Settles O12: the three branches of `afterShortPress`. -/
theorem buttonUpIsAShortPressOrSwallowed : Obligations.ButtonUpIsAShortPressOrSwallowed := by
  intro s a
  refine ⟨exec_btnUp_ignored, ?_⟩
  rintro hlive rfl hpress
  rw [exec_btnUp hlive hpress]
  refine ⟨fun hop m hm => ?_, fun hop => ?_, fun hop => ?_⟩
  · obtain rfl : m = s.buttonMode + 1 := Fin.ext (hm.trans (Fin.val_add s.buttonMode 1).symm)
    exact congrArg Host.Outcome.next (if_pos hop)
  · have hnot : ¬ s.opState = .idle := by simp [hop]
    exact congrArg Host.Outcome.next ((if_neg hnot).trans (if_pos hop))
  · have hidle : ¬ s.opState = .idle := by obtain hop | hop := hop <;> simp [hop]
    have hadv : ¬ s.opState = .advertising := by obtain hop | hop := hop <;> simp [hop]
    exact congrArg Host.Outcome.next ((if_neg hidle).trans (if_neg hadv))

/-! The links (R145 to R149). -/

/-- Settles O13: each of the three is gated by its one state. -/
theorem linkEventsMoveTheState : Obligations.LinkEventsMoveTheState := by
  intro s
  refine ⟨fun hlive hop => ?_, fun hnot => ?_, fun hlive hop => ?_, fun hnot => ?_, fun hlive hop => ?_, fun hnot => ?_⟩
  · exact congrArg Host.Outcome.next ((gated_pos hlive hop).trans s.transition_linkConnected)
  · exact congrArg Host.Outcome.next (gated_neg hnot)
  · exact congrArg Host.Outcome.next ((gated_pos hlive hop).trans s.transition_idle)
  · exact congrArg Host.Outcome.next (gated_neg hnot)
  · exact congrArg Host.Outcome.next ((gated_pos hlive hop).trans s.transition_idle)
  · exact congrArg Host.Outcome.next (gated_neg hnot)

/-- The modes stand in the order of their codes (R96). -/
theorem ofCode_eq_modes : ∀ n : Nat, AnimMode.ofCode n = modes[n]?
  | 0 | 1 | 2 | 3 | 4 | 5 | 6 | 7 => rfl
  | _ + 8 => rfl

theorem modes_eq_none {n : Nat} (h : 7 < n) : modes[n]? = none := List.getElem?_eq_none h

theorem entryOf_eq_some {n : Nat} {m : AnimMode} (h : modes[n]? = some m) (color : RGB) :
    entryOf n color = some ⟨m, color⟩ := by
  rw [entryOf, ofCode_eq_modes, h]
  rfl

theorem entryOf_eq_none {n : Nat} (h : 7 < n) (color : RGB) : entryOf n color = none := by
  rw [entryOf, ofCode_eq_modes, modes_eq_none h]
  rfl

/-- LINK_CMD in LinkConnected (R147). -/
theorem exec_linkCmd {s : State} (hlive : Live s) (hop : s.opState = .linkConnected) (mode red green blue : Byte) :
    exec (.linkCmd mode red green blue) s =
      .next ((entryOf mode.toNat ⟨red, green, blue⟩).elim s s.applyConfig) := by
  refine congrArg Host.Outcome.next ((ite_deaf_of_live hlive).trans ((if_neg (not_not.mpr hop)).trans ?_))
  cases entryOf mode.toNat ⟨red, green, blue⟩ <;> rfl

/-- Settles O14: the mode of the operand is the one of the list, or none. -/
theorem linkCommandAppliesInLinkConnected : Obligations.LinkCommandAppliesInLinkConnected := by
  intro s mode red green blue
  constructor
  · intro m hlive hop hmode
    rw [exec_linkCmd hlive hop, entryOf_eq_some hmode, Option.elim_some, State.applyConfig_eq_applied]
  · intro hignored
    by_cases hlive : Live s
    · by_cases hop : s.opState = .linkConnected
      · have hmode := (hignored.resolve_left (not_not.mpr hlive)).resolve_left (not_not.mpr hop)
        rw [exec_linkCmd hlive hop, entryOf_eq_none hmode, Option.elim_none]
      · exact congrArg Host.Outcome.next ((ite_deaf_of_live hlive).trans (if_pos hop))
    · exact exec_of_not_live hlive

/-! The fields of a descriptor as numbers (R251, R253). -/

theorem extractDesc_toNat (P : BitVec 63) (slot : Nat) :
    (extractDesc P slot).toNat = P.toNat / 2 ^ (21 * slot) % 2 ^ 21 := by
  rw [extractDesc, BitVec.extractLsb'_toNat, Nat.shiftRight_eq_div_pow]

theorem unpack_mode_toNat (d : BitVec 21) : (unpack d).mode.toNat = d.toNat / 65536 := by
  have hlt := d.isLt
  simp only [unpack, BitVec.extractLsb'_toNat, Nat.shiftRight_eq_div_pow]
  omega

/-- A field with `k` zero bits below it. -/
theorem append_zero_toNat {n : Nat} (x : BitVec n) (k : Nat) : (x ++ 0#k).toNat = x.toNat * 2 ^ k := by
  rw [BitVec.toNat_append, BitVec.toNat_ofNat, Nat.zero_mod, Nat.or_zero, Nat.shiftLeft_eq]

theorem unpack_color (d : BitVec 21) : (unpack d).color = descColor d := by
  simp only [unpack, descColor, RGB.mk.injEq, ← BitVec.toNat_inj, append_zero_toNat, BitVec.extractLsb'_toNat,
    BitVec.toNat_ofNat, Nat.shiftRight_eq_div_pow]
  omega

theorem entryOfDesc_eq_some {d : BitVec 21} {m : AnimMode} (h : modes[d.toNat / 65536]? = some m) :
    entryOfDesc d = some ⟨m, descColor d⟩ := by
  rw [entryOfDesc, unpack_mode_toNat, unpack_color]
  exact entryOf_eq_some h _

theorem entryOfDesc_eq_none {d : BitVec 21} (h : 7 < d.toNat / 65536) : entryOfDesc d = none := by
  rw [entryOfDesc, unpack_mode_toNat]
  exact entryOf_eq_none h _

/-- The tail of BCAST (R149): a block that is already receiving leaves nothing. -/
theorem applyBroadcast_eq (s : State) (d : BitVec 21) (e : ModeEntry) :
    applyBroadcast s d e =
      { applied (left s) e with opState := .broadcastReceiving, lastDesc := d, lastDescValid := true } := by
  rw [applyBroadcast]
  by_cases hop : s.opState = .broadcastReceiving
  · rw [if_neg (not_not.mpr hop), left_of_ne (by simp [hop]), State.applyConfig_eq_applied, ← hop]
    rfl
  · rw [if_pos hop, State.transition_broadcastReceiving, State.applyConfig_eq_applied]
    rfl

/-- BCAST on the active group's channel (R149), with `d` the descriptor of its slot. -/
theorem exec_bcast {s : State} {ch : Byte} {P : BitVec 63} {d : BitVec 21} (hlive : Live s)
    (hch : ch.toNat = s.activeGroup.val / 3) (hd : d = extractDesc P (s.activeGroup.val % 3)) :
    exec (.bcast ch P) s =
      .next ((entryOfDesc d).elim s fun e =>
        if s.lastDescValid = true ∧ d = s.lastDesc then s else applyBroadcast s d e) := by
  refine congrArg Host.Outcome.next ((ite_deaf_of_live hlive).trans ((if_neg (not_not.mpr hch)).trans ?_))
  rw [show extractDesc P (slotOf s.activeGroup) = d from hd.symm]
  dsimp only
  cases entryOfDesc d <;> rfl

/-- Settles O15: the routing, then the mode check, then the suppression. -/
theorem broadcastAppliesTheActiveGroup : Obligations.BroadcastAppliesTheActiveGroup := by
  intro s ch P d hd
  have hdesc : d = extractDesc P (s.activeGroup.val % 3) := by
    rw [← BitVec.toNat_inj, hd, extractDesc_toNat]
  constructor
  · intro hignored
    by_cases hlive : Live s
    · by_cases hch : ch.toNat = s.activeGroup.val / 3
      · rw [exec_bcast hlive hch hdesc]
        obtain hmode | hsame := (hignored.resolve_left (not_not.mpr hlive)).resolve_left (not_not.mpr hch)
        · rw [entryOfDesc_eq_none hmode, Option.elim_none]
        · cases entryOfDesc d with
          | none => rfl
          | some e => exact congrArg Host.Outcome.next (if_pos hsame)
      · exact congrArg Host.Outcome.next ((ite_deaf_of_live hlive).trans (if_pos hch))
    · exact exec_of_not_live hlive
  · intro m hlive hch hmode hnew
    have hdiffers : ¬ (s.lastDescValid = true ∧ d = s.lastDesc) := by
      rintro ⟨hvalid, hsame⟩
      obtain hinvalid | hne := hnew
      · simp [hvalid] at hinvalid
      · exact hne hsame
    rw [exec_bcast hlive hch hdesc, entryOfDesc_eq_some hmode]
    exact congrArg Host.Outcome.next ((if_neg hdiffers).trans (applyBroadcast_eq s d _))

/-! The system events (R156 to R158). -/

theorem exec_batt {s : State} (hlive : Live s) (w : Half) : exec (.batt w) s = .next (sampleBattery s w) :=
  congrArg Host.Outcome.next (ite_deaf_of_live hlive)

/-- The percentage of R156 is the only number of its value. -/
theorem battPercent_eq {c : Cfg} {w : Half} {p : Fin 101}
    (hp : (p.val : Int) = min 100 (max 0 (Int.tdiv (((w.toNat : Int) - c.battRawEmpty.toNat) * 100)
      ((c.battRawFull.toNat : Int) - c.battRawEmpty.toNat)))) : battPercent c w = p := by
  apply Fin.ext
  simp only [battPercent, tdiv]
  omega

/-- Settles O16: the three branches of `sampleBattery`. -/
theorem batterySampleIsMeasured : Obligations.BatterySampleIsMeasured := by
  intro s w p
  refine ⟨exec_of_not_live, fun hlive hp => ?_⟩
  rw [exec_batt hlive, sampleBattery, battPercent_eq hp]
  refine ⟨fun hlow => ?_, fun hok hop => ?_, fun hok hop => ?_⟩
  · exact congrArg Host.Outcome.next ((if_pos hlow).trans (State.transition_shuttingDown _))
  · exact congrArg Host.Outcome.next ((if_neg hok.not_gt).trans (if_pos hop))
  · exact congrArg Host.Outcome.next ((if_neg hok.not_gt).trans (if_neg hop))

/-- Settles O17. -/
theorem peripheralFailureHalts : Obligations.PeripheralFailureHalts := by
  intro s a
  constructor
  · intro halive
    exact congrArg Host.Outcome.next ((ite_dead_of_alive halive).trans (s.halt_eq_haltedWith a))
  · intro hnot
    exact exec_of_dead (dead_of_not_alive hnot) rfl

theorem exec_groupSet {s : State} (hlive : Live s) (a : Byte) :
    exec (.groupSet a) s =
      .next ((groupOfExternal a).elim s (selectGroup s)) := by
  refine congrArg Host.Outcome.next ((ite_deaf_of_live hlive).trans ?_)
  cases groupOfExternal a <;> rfl

theorem groupOfExternal_eq_some {a : Byte} {g : Fin 6} (h : a.toNat = g.val + 1) : groupOfExternal a = some g := by
  rw [groupOfExternal, dif_pos (by omega)]
  exact congrArg some (Fin.ext (by simp [h]))

theorem groupOfExternal_eq_none {a : Byte} (h : a.toNat < 1 ∨ 6 < a.toNat) : groupOfExternal a = none :=
  dif_neg (by omega)

/-- R158. -/
theorem selectGroup_eq (s : State) (g : Fin 6) :
    selectGroup s g = { s with
      activeGroup := g
      lastDescValid := false
      cmdOut := s.cmdOut ++
        [[0x87#8, BitVec.ofNat 8 g.val], [0x86#8, BitVec.ofNat 8 g.val, BitVec.ofNat 8 (g.val / 3)]] } := by
  simp only [selectGroup, State.emit, List.append_assoc]
  rfl

/-- Settles O18. -/
theorem groupSetSelectsStoresAndTunes : Obligations.GroupSetSelectsStoresAndTunes := by
  intro s a
  constructor
  · intro g hlive hg
    rw [exec_groupSet hlive, groupOfExternal_eq_some hg]
    exact congrArg Host.Outcome.next (selectGroup_eq s g)
  · intro hignored
    by_cases hlive : Live s
    · rw [exec_groupSet hlive, groupOfExternal_eq_none (hignored.resolve_left (not_not.mpr hlive)),
        Option.elim_none]
    · exact exec_of_not_live hlive

/-! The movement filter (R155, R241, R242). -/

theorem exec_accel {s : State} (hlive : Live s) (x y z : Half) :
    exec (.accel x y z) s = .next (detect (jerked s x y z)) :=
  congrArg Host.Outcome.next (ite_deaf_of_live hlive)

theorem detect_of_still {s : State} (h : s.animMode ∈ [AnimMode.static, .blink, .pulse, .rainbow, .colorShift]) :
    detect s = s := by
  unfold detect
  cases hm : s.animMode <;> simp [hm] at h ⊢

theorem detect_of_clap {s : State} (h : s.animMode ∈ [AnimMode.clapToggle, .clapPulse]) :
    detect s = detectClap s := by
  unfold detect
  cases hm : s.animMode <;> simp [hm] at h ⊢

theorem detect_of_wave {s : State} (h : s.animMode = .waveRainbow) : detect s = detectWave s := by
  unfold detect
  rw [h]

/-- R242, the clap tier: the threshold is strict and the cooldown shuts it. -/
theorem detectClap_pos {s : State} (hmag : s.config.thClap < magnitude s.jerk) (hcool : s.timers.cool.armed = false) :
    detectClap s =
      { s with motionFlag := true, timers := { s.timers with cool := armed s.config.cooldownMs } } := by
  have hcross : crossesClap s.config s.jerk = true := decide_eq_true hmag
  rw [detectClap, if_pos (by simp [hcross, hcool])]
  rfl

theorem detectClap_neg {s : State} (h : magnitude s.jerk ≤ s.config.thClap ∨ s.timers.cool.armed = true) :
    detectClap s = s := by
  refine if_neg ?_
  rw [Bool.and_eq_true, Bool.not_eq_true', not_and_or]
  exact h.imp (fun hmag hcross => absurd (of_decide_eq_true hcross) hmag.not_gt) (by simp)

/-- R242, the wave tier: the threshold is strict. -/
theorem detectWave_pos {s : State} (hmag : s.config.thWave < magnitude s.jerk) :
    detectWave s = { s with motionFlag := true } :=
  if_pos (decide_eq_true hmag)

theorem detectWave_neg {s : State} (hmag : magnitude s.jerk ≤ s.config.thWave) : detectWave s = s :=
  if_neg fun hcross => absurd (of_decide_eq_true hcross) hmag.not_gt

/-- Settles O19: the tier of each mode, and the two sides of its threshold. -/
theorem accelerometerSampleIsFiltered : Obligations.AccelerometerSampleIsFiltered := by
  intro s x y z
  have hexec (hlive : Live s) := exec_accel hlive x y z
  have hclap := detect_of_clap (s := jerked s x y z)
  have hwave := detect_of_wave (s := jerked s x y z)
  refine ⟨exec_of_not_live, fun hlive hmode => ?_, fun hlive hmode => ⟨fun hmag hcool => ?_, fun hnot => ?_⟩,
    fun hlive hmode => ⟨fun hmag => ?_, fun hmag => ?_⟩⟩ <;> refine (hexec hlive).trans (congrArg Host.Outcome.next ?_)
  · exact detect_of_still hmode
  · exact (hclap hmode).trans (detectClap_pos hmag hcool)
  · exact (hclap hmode).trans (detectClap_neg hnot)
  · exact (hwave hmode).trans (detectWave_pos hmag)
  · exact (hwave hmode).trans (detectWave_neg hmag)

end Sys2Proof.Machine
end

section
/-! PROOFS. The six expiries (R144, R150 to R154) and the two phases of TB (R138): obligations O20 to O26. At the end
what stays closed after ShuttingDown (R160; obligation O38). -/

namespace Sys2Proof.Machine

open Claims

/-! The expiry rules. -/

/-- The row of a timer's expiry (R93). -/
def expiryRow : TimerId → Instr
  | .long => .xLong
  | .cool => .xCool
  | .batt => .xBatt
  | .adv => .xAdv
  | .off => .xOff
  | .tick => .xTick

theorem exec_expiryRow (t : TimerId) (s : State) : exec (expiryRow t) s = .next (expire t s) := by
  cases t <;> rfl

theorem eq_expiryRow {i : Instr} (hport : i.port = .timerBank) : ∃ t, i = expiryRow t := by
  cases i with
  | xLong => exact ⟨.long, rfl⟩
  | xCool => exact ⟨.cool, rfl⟩
  | xBatt => exact ⟨.batt, rfl⟩
  | xAdv => exact ⟨.adv, rfl⟩
  | xOff => exact ⟨.off, rfl⟩
  | xTick => exact ⟨.tick, rfl⟩
  | _ => cases hport -- the rows of the other ports

/-- R144. -/
theorem longPress_eq {s : State} (hlive : Live s) : longPress s = afterLongPress s := by
  have hgate := hlive
  obtain ⟨-, hoff, hdown⟩ := hlive
  rw [longPress, ite_deaf_of_live hgate, afterLongPress]
  dsimp only
  cases hop : s.opState with
  | idle => exact State.transition_advertising nofun
  | advertising | linkConnected => exact State.transition_idle _
  | broadcastReceiving => rfl
  | shuttingDown => exact absurd hop hdown
  | poweredOff => exact absurd hop hoff

theorem longPress_of_deaf {s : State} (h : s.deaf = true) : longPress s = s := if_pos h

/-- Settles O20: the three branches of `afterLongPress`. -/
theorem longPressExpiryActsByState : Obligations.LongPressExpiryActsByState := by
  intro s
  have hexec : exec .xLong s = .next (longPress s) := rfl
  refine ⟨fun hnot => ?_, fun hlive hop => ?_, fun hlive hop => ?_, fun hlive hop => ?_⟩
  · rw [hexec, longPress_of_deaf (deaf_of_not_live hnot)]
  all_goals rw [hexec, longPress_eq hlive, afterLongPress]
  · rw [if_pos hop]
  · rw [if_neg (by obtain hop | hop := hop <;> simp [hop]), if_pos hop]
  · rw [if_neg (by simp [hop]), if_neg (by simp [hop])]

theorem advertisingTimeout_ignored {s : State} (h : ¬ Live s ∨ s.opState ≠ .advertising) :
    advertisingTimeout s = s := by
  refine if_neg ?_
  rintro ⟨hop, hdeaf⟩
  exact (h.resolve_left (not_not.mpr (s.deaf_eq_false_iff.mp hdeaf))) hop

/-- Settles O21. -/
theorem batteryAndAdvertisingExpiries : Obligations.BatteryAndAdvertisingExpiries := by
  intro s
  refine ⟨fun hlive => ?_, fun hnot => ?_, fun hlive hop => ?_, fun hignored => ?_⟩
  · exact congrArg Host.Outcome.next (ite_deaf_of_live hlive)
  · exact congrArg Host.Outcome.next (if_pos (deaf_of_not_live hnot))
  · have hguard : s.opState = .advertising ∧ s.deaf = false := ⟨hop, s.deaf_eq_false_iff.mpr hlive⟩
    exact congrArg Host.Outcome.next ((if_pos hguard).trans s.transition_idle)
  · exact congrArg Host.Outcome.next (advertisingTimeout_ignored hignored)

/-- R153. -/
theorem powerOff_eq {s : State} (hop : s.opState = .shuttingDown) (hhalted : s.halted = false) :
    powerOff s = { s with
      cmdOut := s.cmdOut ++ [[0x89#8], [0x8A#8], [0x88#8]]
      timers := ⟨off, off, off, off, off, off⟩
      opState := .poweredOff } := by
  rw [powerOff, if_neg (by simp [hop, hhalted])]
  simp only [State.emit, List.append_assoc]
  rfl

theorem powerOff_ignored {s : State} (h : s.opState ≠ .shuttingDown ∨ s.halted = true) : powerOff s = s := if_pos h

/-- Settles O22. -/
theorem powerOffExpiryEndsTheRun : Obligations.PowerOffExpiryEndsTheRun :=
  fun _ => ⟨fun hop hhalted => congrArg Host.Outcome.next (powerOff_eq hop hhalted),
    fun hignored => congrArg Host.Outcome.next (powerOff_ignored hignored)⟩

/-- A mode's place in the list of R96 is its code. -/
theorem code_of_modes {k : Nat} {m : AnimMode} (h : modes[k]? = some m) : k = m.code :=
  code_of_ofCode ((ofCode_eq_modes k).trans h)

/-- Settles O23: the row at the place of the active mode is its tick rule. -/
theorem tickExpiryRunsTheActiveMode : Obligations.TickExpiryRunsTheActiveMode := by
  intro s k row hmode hrow
  obtain rfl := code_of_modes hmode
  obtain ⟨-, hown⟩ := modes_modeRows s.animMode
  obtain rfl : s.animMode.row = row := Option.some.inj (hown.symm.trans hrow)
  have htick : exec .xTick s = .next (animationExpiry s) := rfl
  refine ⟨fun halive => ?_, fun hnot => ?_, exec_hasNext _ s⟩
  · rw [htick, exec_row, animationExpiry, ite_dead_of_alive halive, animationTick_eq]
  · rw [htick, animationExpiry, if_pos (dead_of_not_alive hnot)]

/-- What X_TICK leaves alone (R199 to R207). -/
theorem animationExpiry_frame (s : State) :
    (animationExpiry s).opState = s.opState ∧ (animationExpiry s).halted = s.halted ∧
    (animationExpiry s).lpArmed = s.lpArmed ∧ (animationExpiry s).timers = s.timers := by
  obtain ⟨-, -, hop, -, -, -, -, -, -, -, htimers, hpress, hhalted, -⟩ := animationTick_frame s
  unfold animationExpiry
  split
  · exact ⟨rfl, rfl, rfl, rfl⟩
  · exact ⟨hop, hhalted, hpress, htimers⟩

/-! The two phases of TB (R138). -/

/-- The state after a TB. -/
def afterTb (s : State) : State := if s.dead then s else timerOrder.foldl (fireIfExpired s.timers) s.countTimers

theorem exec_tb (s : State) : exec .tb s = .next (afterTb s) := rfl

theorem afterTb_of_alive {s : State} (h : Alive s) :
    afterTb s = timerOrder.foldl (fireIfExpired s.timers) s.countTimers := ite_dead_of_alive h

section

variable {before : Timers} {s : State} {t : TimerId}

theorem fireIfExpired_of_running (h : (before.get t).expires = false) : fireIfExpired before s t = s :=
  if_neg (by simp [h])

theorem fireIfExpired_of_dead (h : s.dead = true) : fireIfExpired before s t = s := if_neg (by simp [h])

theorem fireIfExpired_of_expired (halive : Alive s) (h : (before.get t).expires = true) :
    fireIfExpired before s t = expire t s :=
  if_pos (by simp [h, s.dead_eq_false_iff.mpr halive])

/-- R150. -/
theorem fireIfExpired_cool : fireIfExpired before s .cool = s := ite_self _

theorem foldl_fire_of_running (h : ∀ t, (before.get t).expires = false) (l : List TimerId) :
    l.foldl (fireIfExpired before) s = s := by
  induction l with
  | nil => rfl
  | cons t l ih => rwa [List.foldl_cons, fireIfExpired_of_running (h t)]

/-- One turn of phase 2 in the statement's words. -/
theorem thenFire_eq (hdue : due (before.get t) = (before.get t).expires) :
    thenFire (.next s) (before.get t) (expiryRow t) = .next (fireIfExpired before s t) := by
  simp only [thenFire, hdue]
  split
  · next hfire =>
    obtain ⟨hexp, halive⟩ := hfire
    rw [exec_expiryRow, fireIfExpired_of_expired halive hexp]
  · next hnot =>
    refine congrArg Host.Outcome.next (if_neg ?_).symm
    rw [Bool.and_eq_true, Bool.not_eq_true', s.dead_eq_false_iff]
    exact hnot

end

/-- The five turns after X_LONG. -/
theorem thenFire_laterTurns {before : Timers} (hdue : ∀ t, due (before.get t) = (before.get t).expires) (s : State) :
    thenFire (thenFire (thenFire (thenFire (thenFire (.next s)
      before.cool .xCool) before.batt .xBatt) before.adv .xAdv) before.off .xOff) before.tick .xTick =
    .next ([.cool, .batt, .adv, .off, .tick].foldl (fireIfExpired before) s) := by
  have hturn (u : State) (t : TimerId) := thenFire_eq (s := u) (hdue t)
  have hcool := hturn s .cool
  have hbatt := hturn (fireIfExpired before s .cool) .batt
  have hadv := hturn (fireIfExpired before (fireIfExpired before s .cool) .batt) .adv
  simp only [Timers.get, expiryRow] at hcool hbatt hadv
  rw [hcool, hbatt, hadv]
  exact (congrArg (thenFire · before.tick .xTick) (hturn _ .off)).trans (hturn _ .tick)

theorem due_eq_expires {s : State} (h : Counting s) (t : TimerId) :
    due (s.timers.get t) = (s.timers.get t).expires :=
  (Timer.expires_eq_due (h t)).symm

/-- Settles O24: `fireIfExpired` and `thenFire` agree turn by turn. -/
theorem timebaseCountsThenFires : Obligations.TimebaseCountsThenFires := by
  intro s
  refine ⟨fun hnot => exec_of_dead (dead_of_not_alive hnot) rfl, fun halive hcounting => ?_⟩
  have hdue := due_eq_expires hcounting
  have hlong := thenFire_eq (s := s.countTimers) (hdue .long)
  simp only [Timers.get, expiryRow] at hlong
  rw [exec_tb, afterTb_of_alive halive, ← s.countTimers_eq, hlong, thenFire_laterTurns hdue]
  rfl

/-- Settles O25: no expiry rule runs. -/
theorem quietTimebaseOnlyCounts : Obligations.QuietTimebaseOnlyCounts := by
  intro s halive hmore
  have hrunning (t : TimerId) : (s.timers.get t).expires = false := by
    rw [Timer.expires_iff, Bool.and_eq_false_imp, decide_eq_false_iff_not]
    intro harmed
    exact (hmore t harmed).not_ge
  rw [exec_tb, afterTb_of_alive halive, foldl_fire_of_running hrunning, s.countTimers_eq]

theorem expires_armed_one : (armed 1#32).expires = true := by decide

theorem Timer.expires_of_off {x : Timer} (h : x.armed = false) : x.expires = false := by
  rw [Timer.expires_iff, h, Bool.false_and]

/-- Settles O26: X_OFF runs, and X_TICK then finds the block dead. -/
theorem powerOffPrecedesTheTick : Obligations.PowerOffPrecedesTheTick := by
  intro s hhalted hop hlong hbatt hadv hoff htick
  have halive : Alive s := ⟨hhalted, by simp [hop]⟩
  have hlong : (s.timers.get .long).expires = false := Timer.expires_of_off hlong
  have hbatt : (s.timers.get .batt).expires = false := Timer.expires_of_off hbatt
  have hadv : (s.timers.get .adv).expires = false := Timer.expires_of_off hadv
  have hexpired : (s.timers.get .off).expires = true := by
    rw [show s.timers.get .off = armed 1#32 from hoff]
    exact expires_armed_one
  rw [exec_tb, afterTb_of_alive halive]
  simp only [timerOrder, List.foldl_cons, List.foldl_nil]
  rw [fireIfExpired_of_running hlong, fireIfExpired_cool, fireIfExpired_of_running hbatt,
    fireIfExpired_of_running hadv, fireIfExpired_of_expired (s := s.countTimers) halive hexpired, expire,
    powerOff_eq (s := s.countTimers) hop hhalted, fireIfExpired_of_dead (by simp [State.dead])]
  rfl

/-! ShuttingDown and the dead states (R160). -/

theorem expire_of_dead {s : State} (h : s.dead = true) (t : TimerId) : expire t s = s := by
  have hnotLive : ¬ Live s := fun hlive => by simp [s.dead_eq_false_iff.mpr (alive_of_live hlive)] at h
  cases t with
  | long => exact if_pos (deaf_of_dead h)
  | cool => rfl
  | batt => exact if_pos (deaf_of_dead h)
  | adv => exact advertisingTimeout_ignored (.inl hnotLive)
  | off =>
    refine powerOff_ignored ?_
    by_cases hop : s.opState = .shuttingDown
    · exact .inr (by simpa [State.dead, hop] using h)
    · exact .inl hop
  | tick => exact if_pos h

/-- From ShuttingDown an expiry leads to PoweredOff by X_OFF, or nowhere (R160). -/
theorem expire_of_closing {s : State} (hop : s.opState = .shuttingDown) (t : TimerId) :
    (expire t s).halted = s.halted ∧
    ((expire t s).opState = .shuttingDown ∨ t = .off ∧ (expire t s).opState = .poweredOff) := by
  have hdeaf : s.deaf = true := by simp [State.deaf, hop]
  have self (u : State) (hu : u = s) :
      u.halted = s.halted ∧ (u.opState = .shuttingDown ∨ t = .off ∧ u.opState = .poweredOff) := by
    rw [hu]
    exact ⟨rfl, .inl hop⟩
  cases t with
  | long => exact self _ (longPress_of_deaf hdeaf)
  | cool => exact self _ rfl
  | batt => exact self _ (if_pos hdeaf)
  | adv => exact self _ (advertisingTimeout_ignored (.inr (by simp [hop])))
  | off =>
    cases hhalted : s.halted with
    | true => exact hhalted ▸ self _ (powerOff_ignored (.inr hhalted))
    | false =>
      rw [expire, powerOff_eq hop hhalted]
      exact ⟨hhalted, .inr ⟨rfl, rfl⟩⟩
  | tick =>
    obtain ⟨hsame, hhalted, -⟩ := animationExpiry_frame s
    exact ⟨hhalted, .inl (hsame.trans hop)⟩

/-- Shutting down or powered off, and halted as before. -/
def StaysClosed (s t : State) : Prop :=
  t.halted = s.halted ∧ (t.opState = .shuttingDown ∨ t.opState = .poweredOff)

theorem fireIfExpired_staysClosed {before : Timers} {s u : State} (h : StaysClosed s u) (t : TimerId) :
    StaysClosed s (fireIfExpired before u t) := by
  obtain ⟨hhalted, hop | hop⟩ := h
  · unfold fireIfExpired
    split
    · obtain ⟨hsame, hnext⟩ := expire_of_closing hop t
      exact ⟨hsame.trans hhalted, hnext.imp_right And.right⟩
    · exact ⟨hhalted, .inl hop⟩
  · rw [fireIfExpired_of_dead (by simp [State.dead, hop])]
    exact ⟨hhalted, .inr hop⟩

theorem foldl_fire_staysClosed {before : Timers} {s u : State} (h : StaysClosed s u) (l : List TimerId) :
    StaysClosed s (l.foldl (fireIfExpired before) u) := by
  induction l generalizing u with
  | nil => exact h
  | cons t l ih => exact ih (fireIfExpired_staysClosed h t)

theorem afterTb_staysClosed {s : State} (hop : s.opState = .shuttingDown) : StaysClosed s (afterTb s) := by
  unfold afterTb
  split
  · exact ⟨rfl, .inl hop⟩
  · exact foldl_fire_staysClosed (u := s.countTimers) ⟨rfl, .inl hop⟩ _

/-- Settles O38: a deaf block ignores every event but TB and IO_FAIL, and a dead one everything. -/
theorem shuttingDownIsAbsorbing : Obligations.ShuttingDownIsAbsorbing := by
  intro i s t hport he
  constructor
  · intro hop
    obtain hevent | hbank := hport
    · by_cases htb : i = .tb
      · subst htb
        cases he
        obtain ⟨hhalted, hnext⟩ := afterTb_staysClosed hop
        exact ⟨hnext.imp_right fun hoff => ⟨.inl rfl, hoff⟩, .inl hhalted⟩
      by_cases hfail : ∃ a, i = .ioFail a
      · obtain ⟨a, rfl⟩ := hfail
        cases he
        refine ⟨.inl ?_, .inr ⟨a, rfl⟩⟩
        split
        · exact hop
        · exact hop
      · have hdeaf : s.deaf = true := by simp [State.deaf, hop]
        obtain rfl := Host.Outcome.next.inj ((exec_of_deaf hdeaf hevent htb (not_exists.mp hfail)).symm.trans he)
        exact ⟨.inl hop, .inl rfl⟩
    · obtain ⟨u, rfl⟩ := eq_expiryRow hbank
      obtain rfl := Host.Outcome.next.inj ((exec_expiryRow u s).symm.trans he)
      obtain ⟨hhalted, hnext⟩ := expire_of_closing hop u
      exact ⟨hnext.imp_right fun ⟨hu, hoff⟩ => ⟨.inr (congrArg expiryRow hu), hoff⟩, .inl hhalted⟩
  · intro hdead
    have hdead : s.dead = true := by simpa [State.dead] using hdead
    obtain hevent | hbank := hport
    · exact (Host.Outcome.next.inj ((exec_of_dead hdead hevent).symm.trans he)).symm
    · obtain ⟨u, rfl⟩ := eq_expiryRow hbank
      rw [exec_expiryRow, expire_of_dead hdead] at he
      exact (Host.Outcome.next.inj he).symm

end Sys2Proof.Machine
end

section
/-! PROOFS. How many frames one event may render (R162; obligation O42). By the invariant every frame has its WAVE_START
(R224), so it is enough to count the frames. In a TB the long press and the advertising timeout may both be due; under
R43 item 3 the block is then Advertising, so that the first of the two leaves the second nothing to do. -/

namespace Sys2Proof.Machine

open Claims

/-- `t` has at most `n` more frames than `s`. -/
def AddsFrames (n : Nat) (s t : State) : Prop := t.waveOut.length ≤ s.waveOut.length + n

namespace AddsFrames

variable {n m : Nat} {s t u : State}

/-- A write of other fields only. For a record update the equation holds by `rfl`. -/
theorem write (h : AddsFrames n s t) (hwave : u.waveOut = t.waveOut := by rfl) : AddsFrames n s u := by
  rwa [AddsFrames, hwave]

theorem refl (n : Nat) (s : State) : AddsFrames n s s := Nat.le_add_right _ _

theorem of_eq (h : t.waveOut = s.waveOut) : AddsFrames n s t := write (refl n s) h

theorem trans (h : AddsFrames n s t) (h' : AddsFrames m t u) : AddsFrames (n + m) s u := by
  unfold AddsFrames at *
  omega

theorem ite {c : Prop} [Decidable c] (ht : AddsFrames n s t) (hu : AddsFrames n s u) :
    AddsFrames n s (if c then t else u) := by
  split
  · exact ht
  · exact hu

/-- One frame handed over (R224). -/
theorem one {f : List Code} (h : t.waveOut = s.waveOut ++ [f]) : AddsFrames 1 s t := by
  rw [AddsFrames, h, List.length_append, List.length_singleton]

theorem emit (h : AddsFrames n s t) (cmd : Instr) : AddsFrames n s (t.emit cmd) := h

theorem start (h : AddsFrames n s t) (i : TimerId) : AddsFrames n s (t.start i) := h

theorem setSensor (h : AddsFrames n s t) (b : Bool) : AddsFrames n s (t.setSensor b) := h

theorem setAnim (h : AddsFrames n s t) (e : ModeEntry) : AddsFrames (n + 1) s (t.setAnim e) := h.trans (.one rfl)

theorem applyConfig (h : AddsFrames n s t) (e : ModeEntry) : AddsFrames (n + 1) s (t.applyConfig e) :=
  (h.setSensor (needsSensor e.mode)).setAnim e

end AddsFrames

theorem left_waveOut (s : State) : (left s).waveOut = s.waveOut := by
  unfold left
  split <;> rfl

theorem entryEffect_addsFrames (s : State) (new : OpState) : AddsFrames 1 s (s.entryEffect new) := by
  have self : AddsFrames 0 s s := .refl 0 s
  cases new with
  | idle | linkConnected => exact self.applyConfig _
  | advertising => exact (((self.setSensor false).emit .radioAdvStart).setAnim _).start .adv
  | shuttingDown =>
    have hquiesce : AddsFrames 0 s s.quiesce := .of_eq (by simp [State.quiesce])
    exact (hquiesce.applyConfig _).start .off
  | broadcastReceiving | poweredOff => exact .refl 1 s

theorem transition_addsFrames (s : State) (new : OpState) : AddsFrames 1 s (s.transition new) := by
  have hleft : s.exitEffect.waveOut = s.waveOut := left_waveOut s
  have hentry := entryEffect_addsFrames s.exitEffect new
  rw [AddsFrames, hleft] at hentry
  exact hentry

theorem animationTick_addsFrames (s : State) : AddsFrames 1 s (animationTick s) := by
  unfold animationTick
  cases s.animMode with
  | static | blink | pulse | rainbow | colorShift | clapPulse => exact .one rfl
  | clapToggle => exact .ite (.one rfl) (.one rfl)
  | waveRainbow => exact .ite (.one rfl) (.refl 1 s)

theorem shortPress_addsFrames (s : State) : AddsFrames 1 s (shortPress s) := by
  unfold shortPress
  split
  · exact .one rfl
  · exact transition_addsFrames s .idle
  all_goals exact .refl 1 s -- the four states in which a short press does nothing

theorem longPress_addsFrames (s : State) : AddsFrames 1 s (longPress s) := by
  have hlp : AddsFrames 0 s { s with lpArmed := false } := .refl 0 s
  unfold longPress
  refine .ite (.refl 1 s) ?_
  dsimp only
  split
  · exact hlp.trans (transition_addsFrames _ .advertising)
  · exact hlp.trans (transition_addsFrames _ .idle)
  · exact hlp.trans (transition_addsFrames _ .idle)
  all_goals exact .refl 1 s -- the three states in which a long press only clears `lp_armed`

theorem detect_waveOut (s : State) : (detect s).waveOut = s.waveOut := by
  obtain h | h | ⟨-, h⟩ := detect_cases s <;> rw [h]
  rfl

theorem applyBroadcast_addsFrames (s : State) (d : BitVec 21) (e : ModeEntry) :
    AddsFrames 1 s (applyBroadcast s d e) := by
  have hleft : AddsFrames 0 s (left s) := .of_eq (left_waveOut s)
  rw [applyBroadcast_eq]
  exact hleft.trans (.one rfl)

theorem sampleBattery_addsFrames (s : State) (w : Half) : AddsFrames 1 s (sampleBattery s w) :=
  .ite (transition_addsFrames { s with battPct := battPercent s.config w } .shuttingDown) (.ite (.refl 1 s) (.refl 1 s))

theorem powerOff_waveOut (s : State) : (powerOff s).waveOut = s.waveOut := by
  unfold powerOff
  split
  · rfl
  · simp

/-! TB. -/

section

variable {before : Timers} {n : Nat}

theorem fireIfExpired_addsFrames {t : TimerId} {s : State} (h : AddsFrames n s (expire t s)) :
    AddsFrames n s (fireIfExpired before s t) :=
  .ite h (.refl n s)

/-- The turns of X_COOL and X_BATT render nothing and leave the Operating State. -/
theorem fire_cool_batt (s : State) :
    AddsFrames 0 s (fireIfExpired before (fireIfExpired before s .cool) .batt) ∧
    (fireIfExpired before (fireIfExpired before s .cool) .batt).opState = s.opState := by
  rw [fireIfExpired_cool]
  refine ⟨fireIfExpired_addsFrames (.ite (.refl 0 s) (.refl 0 s)), ?_⟩
  simp only [fireIfExpired, expire, requestSample]
  split
  · split <;> rfl
  · rfl

/-- A long press in Advertising goes to Idle (R144). -/
theorem longPress_of_advertising {s : State} (halive : Alive s) (hop : s.opState = .advertising) :
    (longPress s).opState = .idle := by
  rw [longPress_eq ⟨halive.1, halive.2, by simp [hop]⟩, afterLongPress, if_neg (by simp [hop]), if_pos (.inl hop)]
  rfl

/-- The turns before X_OFF render at most one frame, if T_ADV runs in Advertising only. -/
theorem fire_long_to_adv {s : State} (halive : Alive s) (hadv : before.adv.expires = true → s.opState = .advertising) :
    AddsFrames 1 s ([TimerId.long, .cool, .batt, .adv].foldl (fireIfExpired before) s) := by
  have hlong : AddsFrames 1 s (fireIfExpired before s .long) := fireIfExpired_addsFrames (longPress_addsFrames s)
  obtain ⟨hmiddle, hop⟩ := fire_cool_batt (before := before) (fireIfExpired before s .long)
  simp only [List.foldl_cons, List.foldl_nil]
  generalize fireIfExpired before (fireIfExpired before (fireIfExpired before s .long) .cool) .batt = u at hmiddle hop
  have htimeout : AddsFrames 1 u (fireIfExpired before u .adv) :=
    fireIfExpired_addsFrames (.ite (transition_addsFrames u .idle) (.refl 1 u))
  cases hexp : before.adv.expires with
  | false =>
    rw [fireIfExpired_of_running (t := .adv) hexp]
    exact hlong.trans hmiddle
  | true =>
    cases hpress : before.long.expires with
    | false =>
      rw [fireIfExpired_of_running (t := .long) hpress] at hmiddle
      exact hmiddle.trans htimeout
    | true =>
      rw [fireIfExpired_of_expired (t := .long) halive hpress] at hop
      have hidle : u.opState = .idle := hop.trans (longPress_of_advertising halive (hadv hexp))
      have hnothing : expire .adv u = u := advertisingTimeout_ignored (.inr (by simp [hidle]))
      have hlast : fireIfExpired before u .adv = u := (congrArg (ite _ · u) hnothing).trans (ite_self u)
      rw [hlast]
      exact hlong.trans hmiddle

end

/-- T_ADV runs in Advertising only (R43 item 3). -/
theorem advertising_of_advExpires {s : State} (h : Inv s) (halive : Alive s) (hexp : s.timers.adv.expires = true) :
    s.opState = .advertising := by
  rw [Timer.expires, Bool.and_eq_true] at hexp
  obtain ⟨harmed, -⟩ := hexp
  exact (h.advTimer halive.1).mp harmed

theorem afterTb_addsFrames {s : State} (h : Inv s) : AddsFrames 2 s (afterTb s) := by
  unfold afterTb
  split
  · exact .refl 2 s
  next hdead =>
    have halive := s.dead_eq_false_iff.mp (Bool.eq_false_iff.mpr hdead)
    have hearlier := fire_long_to_adv (before := s.timers) (s := s.countTimers) halive (advertising_of_advExpires h halive)
    rw [show timerOrder = [.long, .cool, .batt, .adv] ++ [.off, .tick] from rfl, List.foldl_append]
    generalize [TimerId.long, .cool, .batt, .adv].foldl (fireIfExpired s.timers) s.countTimers = u at hearlier
    have hoff : AddsFrames 0 u (fireIfExpired s.timers u .off) := fireIfExpired_addsFrames (.of_eq (powerOff_waveOut u))
    have htick (v : State) : AddsFrames 1 v (fireIfExpired s.timers v .tick) :=
      fireIfExpired_addsFrames (.ite (.refl 1 v) (animationTick_addsFrames v))
    exact (hearlier.trans hoff).trans (htick _)

/-! The 13 event rows. -/

theorem execLinkCmd_addsFrames {mode red green blue : Byte} {s t : State}
    (he : execLinkCmd mode red green blue s = .next t) : AddsFrames 1 s t := by
  refine holds_of_next he (.ite (.refl 1 s) (.ite (.refl 1 s) ?_))
  split
  · exact .one rfl
  · exact .refl 1 s

theorem execBcast_addsFrames {ch : Byte} {payload : BitVec 63} {s t : State}
    (he : execBcast ch payload s = .next t) : AddsFrames 1 s t := by
  refine holds_of_next he (.ite (.refl 1 s) (.ite (.refl 1 s) ?_))
  dsimp only
  split
  · exact .refl 1 s
  · exact .ite (.refl 1 s) (applyBroadcast_addsFrames s _ _)

theorem execGroupSet_addsFrames {a : Byte} {s t : State} (he : execGroupSet a s = .next t) : AddsFrames 1 s t := by
  refine holds_of_next he (.ite (.refl 1 s) ?_)
  split
  · exact .refl 1 s
  · exact .refl 1 s

theorem exec_addsFrames {i : Instr} {s t : State} (hport : i.port = .event) (h : Inv s) (he : exec i s = .next t) :
    AddsFrames (if i = .tb then 2 else 1) s t := by
  have self : AddsFrames 1 s s := .refl 1 s
  cases i with
  | nop => exact holds_of_next he self
  | tb => exact holds_of_next he (afterTb_addsFrames h)
  | btnDown a => exact holds_of_next he (.ite self (.ite self self.write))
  | btnUp a =>
    refine holds_of_next he (.ite self (.ite self (.ite self ?_)))
    exact shortPress_addsFrames { s.cancel .long with lpArmed := false }
  | accel x y z =>
    exact holds_of_next he (.ite self (.of_eq (detect_waveOut (updateJerk s x y z))))
  | linkUp => exact holds_of_next he (.ite self (.ite (transition_addsFrames s .linkConnected) self))
  | linkDown => exact holds_of_next he (.ite self (.ite (transition_addsFrames s .idle) self))
  | linkCmd mode red green blue => exact execLinkCmd_addsFrames he
  | bcast ch payload => exact execBcast_addsFrames he
  | bcastDrop => exact holds_of_next he (.ite self (.ite (transition_addsFrames s .idle) self))
  | batt w => exact holds_of_next he (.ite self (sampleBattery_addsFrames s w))
  | ioFail a => exact holds_of_next he (.ite self (.one (congrArg State.waveOut (s.halt_eq a))))
  | groupSet a => exact execGroupSet_addsFrames he
  | _ => cases hport -- the rows of the other ports

/-- Settles O42: both states have the invariant, so the commands WAVE_START are as many as the frames. -/
theorem framesPerEventAreBounded : Obligations.FramesPerEventAreBounded := by
  intro i s t hport h he
  have hframes := exec_addsFrames hport h he
  have hafter : Inv t := inv_iff.mpr (exec_inv hport (inv_iff.mp h) he)
  refine ⟨hframes, ?_⟩
  rw [h.starts, hafter.starts]
  exact hframes

end Sys2Proof.Machine
end

section
/-! PROOFS. Presses of the button over time (R161, R163): obligations O43 and O44. A press is its latch `lp_armed` and
its timer `T_LONG`. In a live block the expiries other than X_LONG keep both, so that what n TB do to the press is what
n counts do to the timer (`PressIs`). -/

namespace Sys2Proof.Machine

open Claims

/-! Running a script of TB. -/

theorem runScript_singleton (i : Instr) (s : State) : runScript [i] s = exec i s := by
  unfold runScript
  cases exec i s <;> rfl

theorem runScript_scriptTb (n : Nat) (s : State) : runScript (scriptTb n) s = .next (afterTb^[n] s) := by
  induction n generalizing s with
  | zero => rfl
  | succ n ih =>
    have hscript : scriptTb (n + 1) = .tb :: scriptTb n := List.replicate_succ
    rw [hscript, runScript_cons (exec_tb s), ih, Function.iterate_succ_apply]

/-- `s` after BTN_DOWN has opened a press (R141). -/
def pressed (s : State) : State :=
  { s with timers := { s.timers with long := armed s.config.longPressMs }, lpArmed := true }

theorem runScript_press {s : State} (hlive : Live s) (n : Nat) :
    runScript (.btnDown s.config.buttonPin :: scriptTb n) s = .next (afterTb^[n] (pressed s)) := by
  rw [runScript_cons (exec_btnDown hlive)]
  exact runScript_scriptTb n (pressed s)

theorem runScript_hold {s : State} (hlive : Live s) (n : Nat) :
    runScript (scriptHold s.config.buttonPin n) s =
      exec (.btnUp s.config.buttonPin) (afterTb^[n] (pressed s)) := by
  have hscript : scriptHold s.config.buttonPin n =
      (.btnDown s.config.buttonPin :: scriptTb n) ++ [.btnUp s.config.buttonPin] := rfl
  rw [hscript, runScript_append _ _ _ _ (runScript_press hlive n), runScript_singleton]

/-! The expiries and the press. -/

/-- `t` is live, with the press of `s`. -/
structure SamePress (s t : State) : Prop where
  live : Live t
  lpArmed : t.lpArmed = s.lpArmed
  long : t.timers.long = s.timers.long

theorem SamePress.refl {s : State} (hlive : Live s) : SamePress s s := ⟨hlive, rfl, rfl⟩

theorem SamePress.trans {s t u : State} (h : SamePress s t) (h' : SamePress t u) : SamePress s u :=
  ⟨h'.live, h'.lpArmed.trans h.lpArmed, h'.long.trans h.long⟩

theorem exitEffect_press (s : State) :
    s.exitEffect.lpArmed = s.lpArmed ∧ s.exitEffect.timers.long = s.timers.long := by
  unfold State.exitEffect
  split
  · exact ⟨rfl, rfl⟩
  · exact ⟨rfl, rfl⟩

/-- Of the transitions that button and timers cause in a live block, none touches the press (R135, R144, R152). -/
theorem transition_samePress {s : State} (hlive : Live s) {new : OpState} (hnew : new = .idle ∨ new = .advertising) :
    SamePress s (s.transition new) := by
  obtain ⟨hpress, hlong⟩ := exitEffect_press s
  obtain rfl | rfl := hnew
  · obtain ⟨hlp, htimers⟩ := s.transition_plain_bank (new := .idle) nofun nofun
    exact ⟨live_transition hlive, hlp.trans hpress, (congrArg Timers.long htimers).trans hlong⟩
  · obtain ⟨hlp, htimers⟩ := s.transition_advertising_bank
    exact ⟨live_transition hlive, hlp.trans hpress, (congrArg Timers.long htimers).trans hlong⟩

/-- X_LONG closes the latch; its timer is off already (R138, R144). -/
theorem longPress_samePress {s : State} (hlive : Live s) : SamePress { s with lpArmed := false } (longPress s) := by
  rw [longPress, ite_deaf_of_live hlive]
  dsimp only
  split
  · exact transition_samePress (s := { s with lpArmed := false }) hlive (.inr rfl)
  · exact transition_samePress (s := { s with lpArmed := false }) hlive (.inl rfl)
  · exact transition_samePress (s := { s with lpArmed := false }) hlive (.inl rfl)
  all_goals exact .refl hlive -- the three states in which a long press only clears `lp_armed`

/-- In a live block X_OFF does nothing (R153). -/
theorem powerOff_of_live {s : State} (hlive : Live s) : powerOff s = s := powerOff_ignored (.inl hlive.2.2)

theorem requestSample_of_live {s : State} (hlive : Live s) : requestSample s = s.emit .battSampleReq :=
  ite_deaf_of_live hlive

section

variable {before : Timers} {s : State} {t : TimerId}

theorem expire_samePress (hlive : Live s) (ht : t ≠ .long) : SamePress s (expire t s) := by
  cases t with
  | long => exact absurd rfl ht
  | cool => exact .refl hlive
  | batt =>
    rw [expire, requestSample_of_live hlive]
    exact ⟨hlive, rfl, rfl⟩
  | adv =>
    rw [expire, advertisingTimeout]
    split
    · exact transition_samePress hlive (.inl rfl)
    · exact .refl hlive
  | off =>
    rw [expire, powerOff_of_live hlive]
    exact .refl hlive
  | tick =>
    obtain ⟨hop, hhalted, hpress, htimers⟩ := animationExpiry_frame s
    refine ⟨?_, hpress, congrArg Timers.long htimers⟩
    rw [expire, Live, hop, hhalted]
    exact hlive

/-- Only X_LONG and, in Advertising, X_ADV move the Operating State of a live block. -/
theorem expire_opState (hlive : Live s) (ht : t ≠ .long) (hadv : t = .adv → s.opState ≠ .advertising) :
    (expire t s).opState = s.opState := by
  cases t with
  | long => exact absurd rfl ht
  | cool => rfl
  | batt =>
    rw [expire, requestSample_of_live hlive]
    rfl
  | adv => rw [expire, advertisingTimeout_ignored (.inr (hadv rfl))]
  | off => rw [expire, powerOff_of_live hlive]
  | tick => exact (animationExpiry_frame s).1

theorem fireIfExpired_samePress (hlive : Live s) (ht : t ≠ .long) : SamePress s (fireIfExpired before s t) := by
  unfold fireIfExpired
  split
  · exact expire_samePress hlive ht
  · exact .refl hlive

theorem fireIfExpired_opState (hlive : Live s) (ht : t ≠ .long)
    (hadv : before.adv.expires = true → s.opState ≠ .advertising) :
    (fireIfExpired before s t).opState = s.opState := by
  unfold fireIfExpired
  split
  · next hfire =>
    obtain ⟨hexp, -⟩ := (Bool.and_eq_true _ _).mp hfire
    refine expire_opState hlive ht fun hadvTimer => hadv ?_
    rwa [hadvTimer] at hexp
  · rfl

theorem foldl_fire_samePress (hlive : Live s) (l : List TimerId) (hl : .long ∉ l) :
    SamePress s (l.foldl (fireIfExpired before) s) := by
  induction l generalizing s with
  | nil => exact .refl hlive
  | cons t l ih =>
    rw [List.mem_cons, not_or] at hl
    obtain ⟨ht, hl⟩ := hl
    have hturn := fireIfExpired_samePress (before := before) hlive (Ne.symm ht)
    exact hturn.trans (ih hturn.live hl)

theorem foldl_fire_opState (hlive : Live s) (l : List TimerId) (hl : .long ∉ l)
    (hadv : before.adv.expires = true → s.opState ≠ .advertising) :
    (l.foldl (fireIfExpired before) s).opState = s.opState := by
  induction l generalizing s with
  | nil => rfl
  | cons t l ih =>
    rw [List.mem_cons, not_or] at hl
    obtain ⟨ht, hl⟩ := hl
    have hturn := fireIfExpired_samePress (before := before) hlive (Ne.symm ht)
    have hop := fireIfExpired_opState hlive (Ne.symm ht) hadv
    exact (ih hturn.live hl (hop ▸ hadv)).trans hop

end

/-! One TB and the press. -/

/-- The turns of phase 2 after the first. -/
def laterTimers : List TimerId := [.cool, .batt, .adv, .off, .tick]

theorem afterTb_eq {s : State} (halive : Alive s) :
    afterTb s = laterTimers.foldl (fireIfExpired s.timers) (fireIfExpired s.timers s.countTimers .long) :=
  afterTb_of_alive halive

/-- A TB counts the timer of the press, and closes the latch when it expires. -/
theorem afterTb_press {s : State} (hlive : Live s) :
    Live (afterTb s) ∧ (afterTb s).lpArmed = (s.lpArmed && !s.timers.long.expires) ∧
      (afterTb s).timers.long = counted s.timers.long false s.config.longPressMs := by
  have hcounted : s.countTimers.timers.long = counted s.timers.long false s.config.longPressMs :=
    Timer.count_eq_counted _ _ _
  rw [afterTb_eq (alive_of_live hlive)]
  cases hexp : s.timers.long.expires with
  | false =>
    rw [fireIfExpired_of_running (t := .long) hexp]
    obtain ⟨hlive', hpress, hlong⟩ :=
      foldl_fire_samePress (before := s.timers) (s := s.countTimers) hlive laterTimers (by decide)
    exact ⟨hlive', hpress.trans (Bool.and_true _).symm, hlong.trans hcounted⟩
  | true =>
    rw [fireIfExpired_of_expired (s := s.countTimers) (t := .long) (alive_of_live hlive) hexp]
    have hfirst := longPress_samePress (s := s.countTimers) hlive
    obtain ⟨hlive', hpress, hlong⟩ :=
      hfirst.trans (foldl_fire_samePress (before := s.timers) hfirst.live laterTimers (by decide))
    exact ⟨hlive', hpress.trans (Bool.and_false _).symm, hlong.trans hcounted⟩

/-- `s` is live, with the configuration and the `button_mode` of `start`, and its press has latch `lp` and timer `x`. -/
structure PressIs (start : State) (lp : Bool) (x : Timer) (s : State) : Prop where
  live : Live s
  config : s.config = start.config
  buttonMode : s.buttonMode = start.buttonMode
  lpArmed : s.lpArmed = lp
  long : s.timers.long = x

section

variable {start s : State}

theorem pressed_pressIs (hlive : Live s) : PressIs s true (armed s.config.longPressMs) (pressed s) :=
  ⟨hlive, rfl, rfl, rfl, rfl⟩

theorem afterTb_pressIs {lp : Bool} {x : Timer} (h : PressIs start lp x s) :
    PressIs start (lp && !x.expires) (counted x false start.config.longPressMs) (afterTb s) := by
  obtain ⟨hlive, hpress, hlong⟩ := afterTb_press h.live
  obtain ⟨hbutton, -⟩ := execTb_touches (exec_tb s)
  have hconfig := (exec_outputsGrow .tb s (afterTb s) (exec_tb s)).config
  exact
    { live := hlive
      config := hconfig.trans h.config
      buttonMode := hbutton.trans h.buttonMode
      lpArmed := by rw [hpress, h.lpArmed, h.long]
      long := by rw [hlong, h.long, h.config] }

/-- A press with more than a millisecond left loses one. -/
theorem afterTb_open {ms : Nat} (h : PressIs start true (armed (BitVec.ofNat 32 (ms + 1))) s) (hms : 0 < ms)
    (hmax : ms < 3000) : PressIs start true (armed (BitVec.ofNat 32 ms)) (afterTb s) := by
  have hrem : (BitVec.ofNat 32 (ms + 1)).toNat = ms + 1 := by
    rw [BitVec.toNat_ofNat]
    omega
  have hexp : (armed (BitVec.ofNat 32 (ms + 1))).expires = false := by
    simp only [Timer.expires_iff, armed, hrem, Bool.true_and, decide_eq_false_iff_not]
    omega
  have hcounted : counted (armed (BitVec.ofNat 32 (ms + 1))) false start.config.longPressMs =
      armed (BitVec.ofNat 32 ms) := by
    simp only [counted, armed, hrem, if_true, if_pos (show 1 < ms + 1 by omega), Nat.add_sub_cancel]
  have hnext := afterTb_pressIs h
  rwa [hexp, hcounted] at hnext

/-- A press at its last millisecond is closed. -/
theorem afterTb_last (h : PressIs start true (armed 1#32) s) : PressIs start false off (afterTb s) := by
  have hnext := afterTb_pressIs h
  rwa [expires_armed_one] at hnext

/-- A closed press stays closed. -/
theorem afterTb_closed (h : PressIs start false off s) : PressIs start false off (afterTb s) := afterTb_pressIs h

end

/-- `LONG_PRESS_MS` is 3000 (R5). -/
theorem longPressMs_eq {c : Cfg} (hc : c.WF) : c.longPressMs = 3000#32 := by
  obtain ⟨-, -, ⟨hlong, -⟩, -⟩ := hc
  exact hlong

theorem iterate_open {s : State} (hlive : Live s) (hc : s.config.WF) {n : Nat} (hn : n < 3000) :
    PressIs s true (armed (BitVec.ofNat 32 (3000 - n))) (afterTb^[n] (pressed s)) := by
  induction n with
  | zero =>
    have hopen := pressed_pressIs hlive
    rwa [longPressMs_eq hc] at hopen
  | succ n ih =>
    rw [Function.iterate_succ_apply']
    have hbefore := ih (by omega)
    rw [show 3000 - n = 3000 - (n + 1) + 1 by omega] at hbefore
    exact afterTb_open hbefore (by omega) (by omega)

theorem iterate_closed {s : State} (hlive : Live s) (hc : s.config.WF) {n : Nat} (hn : 3000 ≤ n) :
    PressIs s false off (afterTb^[n] (pressed s)) := by
  induction n, hn using Nat.le_induction with
  | base =>
    rw [Function.iterate_succ_apply' afterTb 2999]
    exact afterTb_last (iterate_open hlive hc (n := 2999) (by omega))
  | succ n _ ih =>
    rw [Function.iterate_succ_apply']
    exact afterTb_closed ih

/-! The 3000th TB. -/

/-- Its first expiry is X_LONG, on the state whose timers are counted. -/
theorem afterTb_eq_of_lastMillisecond {r : State} (hlive : Live r) (hlong : r.timers.long = armed 1#32) :
    afterTb r = laterTimers.foldl (fireIfExpired r.timers)
      (afterLongPress { r with timers := countedAll r.config r.timers }) := by
  have hexp : (r.timers.get .long).expires = true := by
    rw [show r.timers.get .long = armed 1#32 from hlong]
    exact expires_armed_one
  rw [afterTb_eq (alive_of_live hlive), fireIfExpired_of_expired (s := r.countTimers) (alive_of_live hlive) hexp,
    ← r.countTimers_eq, ← longPress_eq (s := r.countTimers) hlive]
  rfl

/-- The later expiries leave the Operating State that X_LONG has entered: T_ADV is due in Advertising only (R43 item 3),
which X_LONG has left. -/
theorem lastMillisecond_opState {r : State} (hlive : Live r) (hlong : r.timers.long = armed 1#32) (hinv : Inv r) :
    (r.opState = .idle → (afterTb r).opState = .advertising) ∧
    ((r.opState = .advertising ∨ r.opState = .linkConnected) → (afterTb r).opState = .idle) ∧
    (r.opState = .broadcastReceiving → (afterTb r).opState = .broadcastReceiving) := by
  have hafter : Live (afterLongPress { r with timers := countedAll r.config r.timers }) := by
    rw [← r.countTimers_eq, ← longPress_eq (s := r.countTimers) hlive]
    exact (longPress_samePress (s := r.countTimers) hlive).live
  have hkeep := foldl_fire_opState (before := r.timers) hafter laterTimers (by decide)
  rw [← afterTb_eq_of_lastMillisecond hlive hlong] at hkeep
  unfold afterLongPress at hkeep
  refine ⟨fun hop => ?_, fun hop => ?_, fun hop => ?_⟩
  · rw [if_pos hop] at hkeep
    exact hkeep fun hexp => absurd ((advertising_of_advExpires hinv (alive_of_live hlive) hexp).symm.trans hop) nofun
  · rw [if_neg (by obtain hop | hop := hop <;> simp [hop]), if_pos hop] at hkeep
    exact hkeep fun _ => nofun
  · rw [if_neg (by simp [hop]), if_neg (by simp [hop])] at hkeep
    exact (hkeep fun _ => by simp [hop]).trans hop

theorem afterTb_inv {s : State} (h : Inv s) : Inv (afterTb s) :=
  inv_iff.mpr (exec_inv rfl (inv_iff.mp h) (exec_tb s))

theorem iterate_inv {s : State} (h : Inv s) (n : Nat) : Inv (afterTb^[n] s) := by
  induction n with
  | zero => exact h
  | succ n ih =>
    rw [Function.iterate_succ_apply']
    exact afterTb_inv ih

theorem pressed_inv {s : State} (h : Inv s) (hlive : Live s) : Inv (pressed s) :=
  inv_iff.mpr (exec_inv rfl (inv_iff.mp h) (exec_btnDown hlive))

/-- Settles O43: the press after n TB is open (`iterate_open`) or closed (`iterate_closed`). -/
theorem eachPressActsOnce : Obligations.EachPressActsOnce := by
  intro s n hlive hc
  refine ⟨fun hn => ?_, fun hn => ?_, fun hinv => ?_⟩
  · have hopen := iterate_open hlive hc hn
    refine ⟨_, runScript_press hlive n, hopen.live, hopen.lpArmed, hopen.long, hopen.buttonMode, ?_⟩
    rw [runScript_hold hlive, ← hopen.config, exec_btnUp hopen.live hopen.lpArmed]
  · have hclosed := iterate_closed hlive hc hn
    refine ⟨_, runScript_press hlive n, hclosed.lpArmed, hclosed.long, hclosed.buttonMode, ?_⟩
    rw [runScript_hold hlive, exec_btnUp_ignored (.inr (.inr hclosed.lpArmed))]
  · have hopen := iterate_open hlive hc (n := 2999) (by omega)
    have hinv' := iterate_inv (pressed_inv hinv hlive) 2999
    have hlast := runScript_press hlive 3000
    rw [Function.iterate_succ_apply' afterTb 2999] at hlast
    refine ⟨_, _, runScript_press hlive 2999, hopen.live, hlast, ?_,
      lastMillisecond_opState hopen.live hopen.long hinv'⟩
    rw [afterTb_eq_of_lastMillisecond hopen.live hopen.long]
    exact (thenFire_laterTurns (due_eq_expires fun t ht => (hinv'.armedTimers t ht).1) _).symm

/-! Short presses in Idle (R143, R163). -/

/-- PRESS in Idle. -/
theorem runScript_scriptPress {s : State} (hhalted : s.halted = false) (hop : s.opState = .idle) :
    runScript (scriptPress s.config.buttonPin) s =
      .next (applied { released s with buttonMode := s.buttonMode + 1 }
        (s.config.buttonModes.get (s.buttonMode + 1))) := by
  have hlive : Live s := ⟨hhalted, by simp [hop], by simp [hop]⟩
  have hup : exec (.btnUp s.config.buttonPin) (pressed s) = .next (afterShortPress (released (pressed s))) :=
    exec_btnUp (s := pressed s) hlive rfl
  rw [scriptPress, runScript_cons (exec_btnDown hlive), runScript_singleton]
  exact hup.trans (congrArg Host.Outcome.next (if_pos hop))

/-- The Button Mode `k` short presses after `m`. -/
def buttonAfter (m : Fin 9) (k : Nat) : Fin 9 := Fin.ofNat 9 (m.val + k)

theorem buttonAfter_zero (m : Fin 9) : buttonAfter m 0 = m := Fin.ext (Nat.mod_eq_of_lt m.isLt)

theorem buttonAfter_succ (m : Fin 9) (k : Nat) : buttonAfter m (k + 1) = buttonAfter m k + 1 := by
  apply Fin.ext
  simp only [buttonAfter, Fin.val_ofNat, Fin.val_add, Fin.val_one]
  omega

/-- The frames by which a short press in Idle applies `e` (R140, R143). -/
def pressFrames (e : ModeEntry) : List Frame := [[0x81#8, if wantsSensor e.mode then 1#8 else 0#8], [0x80#8]]

/-- What `k` short presses have done to a block in Idle. -/
structure AfterPresses (s : State) (k : Nat) (t : State) : Prop where
  run : runScript (List.replicate k (scriptPress s.config.buttonPin)).flatten s = .next t
  config : t.config = s.config
  halted : t.halted = false
  opState : t.opState = .idle
  buttonMode : t.buttonMode = buttonAfter s.buttonMode k
  animMode : 0 < k → t.animMode = (s.config.buttonModes.get t.buttonMode).mode
  cmdOut : t.cmdOut = s.cmdOut ++
    ((List.range k).map fun j => pressFrames (s.config.buttonModes.get (buttonAfter s.buttonMode (j + 1)))).flatten

theorem afterPresses {s : State} (hhalted : s.halted = false) (hop : s.opState = .idle) (k : Nat) :
    ∃ t, AfterPresses s k t := by
  induction k with
  | zero =>
    exact ⟨s,
      { run := rfl, config := rfl, halted := hhalted, opState := hop, buttonMode := (buttonAfter_zero _).symm
        animMode := nofun, cmdOut := (List.append_nil _).symm }⟩
  | succ k ih =>
    obtain ⟨t, ht⟩ := ih
    have hpress := runScript_scriptPress ht.halted ht.opState
    have hbutton : t.buttonMode + 1 = buttonAfter s.buttonMode (k + 1) := by rw [ht.buttonMode, buttonAfter_succ]
    rw [hbutton, ht.config] at hpress
    refine ⟨applied { released t with buttonMode := buttonAfter s.buttonMode (k + 1) }
        (s.config.buttonModes.get (buttonAfter s.buttonMode (k + 1))),
      { run := ?_, config := ht.config, halted := ht.halted, opState := ht.opState, buttonMode := rfl
        animMode := fun _ => rfl, cmdOut := ?_ }⟩
    · rw [List.replicate_succ', List.flatten_append, List.flatten_singleton, runScript_append _ _ _ _ ht.run]
      exact hpress
    · rw [List.range_succ, List.map_append, List.flatten_append, ← List.append_assoc, ← ht.cmdOut]
      exact List.append_assoc ..

/-- R163: the modes that the reference table visits from Button Mode 6. -/
theorem visited_eq : ∀ k ≤ 9, [6, 7, 8, 0, 1, 2, 3, 4, 5, 6][k]? = some (buttonAfter 6 k).val := by decide

/-- R163: the sensor operands of the reference table from Button Mode 6. -/
theorem pressFrames_reference : ∀ k ≤ 9,
    ((List.range k).map fun j => pressFrames (buttonModesReference.get (buttonAfter 6 (j + 1)))) =
      ([1#8, 1#8, 0#8, 0#8, 0#8, 0#8, 0#8, 0#8, 1#8].take k).map (fun b => [[0x81#8, b], [0x80#8]]) := by decide

/-- Settles O44: `afterPresses` under the reference table. -/
theorem ninePressesReturnToClapToggle : Obligations.NinePressesReturnToClapToggle := by
  intro s k hhalted hop hbutton htable hk
  obtain ⟨t, ht⟩ := afterPresses hhalted hop k
  refine ⟨t, ht.run, ht.opState, ?_, ?_, ?_⟩
  · rw [ht.buttonMode, hbutton]
    exact visited_eq k hk
  · rintro rfl
    rw [ht.animMode (by omega), ht.buttonMode, hbutton, htable]
    rfl
  · rw [ht.cmdOut, hbutton, htable, pressFrames_reference k hk]

end Sys2Proof.Machine
end

section
/-! PROOFS. The Color Engine (R181, R182, R184, R185, R187): obligations O46 to O49. Each converter is unfolded once: in
`hsvToRgb_of_s_ne_zero`, an entry of a table of six triples made of the value and three dimmed values, and in the
equations of `rgbToHsv` by the saturation `saturation`. -/

namespace Sys2Proof.Machine

open Claims (maxChannel)

theorem toNat_ofNat_byte {n : Nat} (h : n < 256) : (BitVec.ofNat 8 n).toNat = n :=
  (BitVec.toNat_ofNat n 8).trans (Nat.mod_eq_of_lt h)

/-! `hsv_to_rgb` (R181). -/

/-- The value `v` dimmed by `k`, `v × (255 − k) >> 8`: the form of the channels p, q and t of R181. -/
def dimmed (v : Byte) (k : Nat) : Byte := BitVec.ofNat 8 (v.toNat * (255 - k) / 256)

theorem toNat_dimmed (v : Byte) (k : Nat) : (dimmed v k).toNat = v.toNat * (255 - k) / 256 := by
  have hlt : v.toNat * (255 - k) < 2 ^ 8 * 256 :=
    Nat.mul_lt_mul_of_lt_of_le v.isLt (by omega) (by omega)
  exact toNat_ofNat_byte (Nat.div_lt_of_lt_mul (by omega))

theorem eq_dimmed {v x : Byte} {k : Nat} (h : x.toNat = v.toNat * (255 - k) / 256) : x = dimmed v k :=
  BitVec.eq_of_toNat_eq (h.trans (toNat_dimmed v k).symm)

theorem toNat_dimmed_le (v : Byte) (k : Nat) : (dimmed v k).toNat ≤ v.toNat := by
  rw [toNat_dimmed]
  have hle : v.toNat * (255 - k) ≤ v.toNat * 256 := Nat.mul_le_mul_left _ (by omega)
  omega

/-- The triples of the six regions of R181, region 0 first. -/
def regions (v p q t : Byte) : List RGB := [⟨v, t, p⟩, ⟨q, v, p⟩, ⟨p, v, t⟩, ⟨p, q, v⟩, ⟨t, p, v⟩, ⟨v, p, q⟩]

theorem maxChannel_of_mem_regions {v p q t : Byte} {c : RGB} (hp : p.toNat ≤ v.toNat) (hq : q.toNat ≤ v.toNat)
    (ht : t.toNat ≤ v.toNat) (hmem : c ∈ regions v p q t) : maxChannel c = v.toNat := by
  simp only [regions, List.mem_cons, List.not_mem_nil, or_false] at hmem
  obtain rfl | rfl | rfl | rfl | rfl | rfl := hmem <;> simp only [maxChannel] <;> omega

theorem hsvToRgb_of_s_eq_zero {c : HSV} (hs : c.s = 0#8) : hsvToRgb c = ⟨c.v, c.v, c.v⟩ :=
  if_pos (congrArg BitVec.toNat hs)

/-- The six regions of R181, where `c.h.toNat % 43 * 6` is the rule's `rem`. -/
theorem hsvToRgb_of_s_ne_zero {c : HSV} (hs : c.s ≠ 0#8) :
    some (hsvToRgb c) = (regions c.v (dimmed c.v c.s.toNat)
      (dimmed c.v (c.s.toNat * (c.h.toNat % 43 * 6) / 256))
      (dimmed c.v (c.s.toNat * (255 - c.h.toNat % 43 * 6) / 256)))[c.h.toNat / 43]? := by
  have hs' : c.s.toNat ≠ 0 := fun h => hs (BitVec.eq_of_toNat_eq h)
  have hrem : c.h.toNat - 43 * (c.h.toNat / 43) = c.h.toNat % 43 := by omega
  have hregion : c.h.toNat / 43 < 6 := by omega
  simp only [hsvToRgb, if_neg hs', hrem, Nat.shiftRight_eq_div_pow]
  generalize c.h.toNat / 43 = region at hregion
  match region, hregion with
  | 0, _ | 1, _ | 2, _ | 3, _ | 4, _ | 5, _ => rfl

/-- Settles O46. -/
theorem hsvToRgbFollowsTheSixRegions : Obligations.HsvToRgbFollowsTheSixRegions := by
  intro h s v p q t hp hq ht
  rw [eq_dimmed hp, eq_dimmed hq, eq_dimmed ht]
  exact ⟨fun hs => hsvToRgb_of_s_eq_zero hs, fun hs => hsvToRgb_of_s_ne_zero hs⟩

/-- R182, item 3. -/
theorem maxChannel_hsvToRgb (c : HSV) : maxChannel (hsvToRgb c) = c.v.toNat := by
  by_cases hs : c.s = 0#8
  · rw [hsvToRgb_of_s_eq_zero hs]
    exact (congrArg (max _) (Nat.max_self _)).trans (Nat.max_self _)
  · exact maxChannel_of_mem_regions (toNat_dimmed_le ..) (toNat_dimmed_le ..) (toNat_dimmed_le ..)
      (List.mem_of_getElem? (hsvToRgb_of_s_ne_zero hs).symm)

/-! `rgb_to_hsv` (R184). -/

/-- The smallest of three channels. -/
def minChannel (c : RGB) : Nat := min c.r.toNat (min c.g.toNat c.b.toNat)

/-- The saturation of R184 before it is narrowed: 0 for black. -/
def saturation (c : RGB) : Nat := 255 * (maxChannel c - minChannel c) / maxChannel c

theorem maxChannel_lt (c : RGB) : maxChannel c < 256 := by
  simp only [maxChannel]
  omega

theorem eq_black_of_maxChannel_eq_zero {c : RGB} (h : maxChannel c = 0) : c = ⟨0#8, 0#8, 0#8⟩ := by
  obtain ⟨r, g, b⟩ := c
  simp only [maxChannel] at h
  congr <;> bv_omega

theorem saturation_lt (c : RGB) : saturation c < 256 := by
  have hle : 255 * (maxChannel c - minChannel c) ≤ maxChannel c * 255 := by omega
  exact Nat.lt_succ_of_le (Nat.div_le_of_le_mul hle)

/-- R185, item 1: a spread of at least 1 gives a saturation of at least 255 / 255. -/
theorem saturation_eq_zero_iff (c : RGB) : saturation c = 0 ↔ c.r = c.g ∧ c.g = c.b := by
  simp only [saturation, Nat.div_eq_zero_iff, maxChannel, minChannel, ← BitVec.toNat_inj]
  omega

theorem rgbToHsv_of_saturation_eq_zero {c : RGB} (h : saturation c = 0) :
    rgbToHsv c = ⟨0#8, 0#8, BitVec.ofNat 8 (maxChannel c)⟩ := by
  by_cases hmax : maxChannel c = 0
  · rw [hmax]
    exact if_pos hmax
  · exact (if_neg hmax).trans (if_pos h)

theorem rgbToHsv_of_saturation_ne_zero {c : RGB} (h : saturation c ≠ 0) :
    rgbToHsv c = ⟨wrap8 (hueOf c.r.toNat c.g.toNat c.b.toNat (maxChannel c - minChannel c : Nat)),
      BitVec.ofNat 8 (saturation c), BitVec.ofNat 8 (maxChannel c)⟩ := by
  have hmax : maxChannel c ≠ 0 := fun hzero => h (by rw [saturation, hzero, Nat.div_zero])
  exact (if_neg hmax).trans (if_neg h)

theorem rgbToHsv_s (c : RGB) : (rgbToHsv c).s = BitVec.ofNat 8 (saturation c) := by
  by_cases h : saturation c = 0
  · rw [rgbToHsv_of_saturation_eq_zero h, h]
  · rw [rgbToHsv_of_saturation_ne_zero h]

theorem rgbToHsv_v (c : RGB) : (rgbToHsv c).v = BitVec.ofNat 8 (maxChannel c) := by
  by_cases h : saturation c = 0
  · rw [rgbToHsv_of_saturation_eq_zero h]
  · rw [rgbToHsv_of_saturation_ne_zero h]

theorem rgbToHsv_s_eq_zero_iff (c : RGB) : (rgbToHsv c).s = 0#8 ↔ saturation c = 0 := by
  rw [rgbToHsv_s, ← BitVec.toNat_inj, toNat_ofNat_byte (saturation_lt c)]
  rfl

theorem toNat_rgbToHsv_v (c : RGB) : (rgbToHsv c).v.toNat = maxChannel c := by
  rw [rgbToHsv_v, toNat_ofNat_byte (maxChannel_lt c)]

/-- R184: the model finds the dominant channel among integers, the rule among naturals. -/
theorem hueOf_natCast (r g b : Nat) (d : Int) :
    hueOf r g b d =
      if max r (max g b) = r then Int.tdiv (43 * ((g : Int) - b)) d
      else if max r (max g b) = g then 85 + Int.tdiv (43 * ((b : Int) - r)) d
      else 171 + Int.tdiv (43 * ((r : Int) - g)) d := by
  simp only [hueOf, tdiv, ← Nat.cast_max, Nat.cast_inj, zero_add]

/-- Settles O47. -/
theorem rgbToHsvFollowsTheDominantChannel : Obligations.RgbToHsvFollowsTheDominantChannel := by
  rintro c mx d sat hue rfl rfl rfl rfl
  refine ⟨fun hmax => if_pos hmax, fun _ hsat => rgbToHsv_of_saturation_eq_zero hsat, fun hsat => ?_⟩
  rw [← hueOf_natCast]
  exact rgbToHsv_of_saturation_ne_zero hsat

/-- Settles O48: the largest channel is the value on both sides of the round trip. -/
theorem hsvToRgbKeepsTheValue : Obligations.HsvToRgbKeepsTheValue := by
  intro c
  have hmax := maxChannel_hsvToRgb c
  refine ⟨hsvToRgb_of_s_eq_zero, fun hv => ?_, hmax, ?_⟩
  · exact eq_black_of_maxChannel_eq_zero (hmax.trans (congrArg BitVec.toNat hv))
  · exact BitVec.eq_of_toNat_eq ((toNat_rgbToHsv_v _).trans hmax)

/-- Settles O49. -/
theorem onlyGreysHaveNoSaturation : Obligations.OnlyGreysHaveNoSaturation := by
  intro c
  refine ⟨(rgbToHsv_s_eq_zero_iff c).trans (saturation_eq_zero_iff c), fun hs => ?_, toNat_rgbToHsv_v c⟩
  rw [rgbToHsv_of_saturation_eq_zero ((rgbToHsv_s_eq_zero_iff c).mp hs)]

end Sys2Proof.Machine
end

section
/-! PROOFS. The Animation Driver (R200 to R207): obligations O27 to O30. One equation for each tick rule in the words of
the statements (`Claims`), in which every narrowing of R11 is done on naturals; then the interpolation of R204, which never
leaves its endpoints and so never wraps. -/

namespace Sys2Proof.Machine

open Claims

/-! The row of a mode and X_TICK run one rule (R154, R199). -/

theorem exec_of_ticks {i : Instr} {m : AnimMode} {s : State} (h : Ticks i m.row m s) :
    exec i s = .next (tickRule m s) := by
  obtain rfl | ⟨rfl, halive, rfl⟩ := h
  · exact exec_row m s
  · obtain ⟨hmode, hrow⟩ := modes_modeRows s.animMode
    obtain ⟨hactive, -⟩ := tickExpiryRunsTheActiveMode s _ _ hmode hrow
    rw [hactive halive, exec_row]

/-! The narrowing laws on naturals (R11). -/

theorem wrap8_natCast (n : Nat) : wrap8 n = BitVec.ofNat 8 n := BitVec.ofInt_natCast 8 n

theorem wrap8_natCast_mod (n : Nat) : wrap8 n = BitVec.ofNat 8 (n % 256) := by
  rw [wrap8_natCast]
  exact BitVec.eq_of_toNat_eq (by simp)

theorem stepCounter_eq_stepped (c step : Byte) : stepCounter c step = stepped c step :=
  wrap8_natCast_mod (c.toNat + step.toNat)

/-- R203. -/
theorem rainbowHue_eq (c : Cfg) (phase : Byte) (i : Nat) :
    rainbowHue c phase i = BitVec.ofNat 8 ((phase.toNat + i * 256 / c.nPixels) % 256) :=
  wrap8_natCast_mod (phase.toNat + i * 256 / c.nPixels)

/-- R206: the floor is no negative number, so the subtraction may stop at 0. -/
theorem clapDecay_eq (c : Cfg) (bright : Byte) :
    clapDecay c bright = BitVec.ofNat 8 (max (bright.toNat - c.cpDecay.toNat) c.cpMin.toNat) := by
  rw [← wrap8_natCast, clapDecay]
  congr 1
  omega

/-! Painting (R22, R196, R224). -/

theorem State.paint_ofHSV_render (s : State) (f : Nat → HSV) :
    (s.paint (fun i => Pixel.ofHSV (f i))).render = frameHSV s f := rfl

theorem State.allHSV_render (s : State) (c : HSV) : (s.allHSV c).render = frameHSV s (fun _ => c) := rfl

theorem State.render_eq_framed (s : State) : s.render = framed s s.px := rfl

/-! The tick rules that do not read the Motion Flag (R200 to R204). -/

theorem tickBlink_eq (s : State) :
    tickBlink s = frameHSV { s with blinkPhase := stepped s.blinkPhase s.config.blinkStep }
      (fun _ => ⟨s.cfg.hsv.h, s.cfg.hsv.s,
        if (stepped s.blinkPhase s.config.blinkStep).toNat < 128 then 255#8 else 0#8⟩) := by
  rw [tickBlink, State.allHSV_render, stepCounter_eq_stepped]

theorem tickPulse_eq (s : State) :
    tickPulse s = frameHSV { s with pulsePhase := stepped s.pulsePhase s.config.pulseStep }
      (fun _ => ⟨s.cfg.hsv.h, s.cfg.hsv.s, s.config.sine (stepped s.pulsePhase s.config.pulseStep)⟩) := by
  rw [tickPulse, State.allHSV_render, stepCounter_eq_stepped]

theorem tickRainbow_eq (s : State) :
    tickRainbow s = frameHSV { s with rainbowPhase := stepped s.rainbowPhase s.config.rainbowStep }
      (fun i => ⟨rainbowHue s.config (stepped s.rainbowPhase s.config.rainbowStep) i, 255#8, 255#8⟩) := by
  rw [tickRainbow, State.paint_ofHSV_render, stepCounter_eq_stepped]

theorem tickColorShift_eq (s : State) :
    tickColorShift s = frameHSV { s with shiftPhase := stepped s.shiftPhase s.config.shiftStep }
      (fun _ => lerpHSV s.shiftA s.config.shiftEndB
        (s.config.sine (stepped s.shiftPhase s.config.shiftStep))) := by
  rw [tickColorShift, State.allHSV_render, stepCounter_eq_stepped]

/-- Settles O27, by the equation of each tick rule. -/
theorem staticBlinkPulseTicks : Obligations.StaticBlinkPulseTicks := by
  intro s
  refine ⟨fun i h => ?_, fun i h => ?_, fun i h => ?_⟩
  · rw [exec_of_ticks (m := .static) h, tickRule, tickStatic, State.render_eq_framed]
  · rw [exec_of_ticks (m := .blink) h, tickRule, tickBlink_eq]
  · rw [exec_of_ticks (m := .pulse) h, tickRule, tickPulse_eq]
    rfl

/-- Settles O28, by the equation of each tick rule. -/
theorem rainbowAndColorShiftTicks : Obligations.RainbowAndColorShiftTicks := by
  intro s
  refine ⟨fun i h => ?_, ?_⟩
  · rw [exec_of_ticks (m := .rainbow) h, tickRule, tickRainbow_eq]
    simp only [rainbowHue_eq]
  · rintro i w h rfl
    rw [exec_of_ticks (m := .colorShift) h, tickRule, tickColorShift_eq]
    rfl

/-! The tick rules that consume the Motion Flag (R205 to R207). -/

section

variable {s : State}

theorem tickClapToggle_of_motion (h : s.motionFlag = true) :
    tickClapToggle s = frameHSV { s with motionFlag := false, clapHue := stepped s.clapHue s.config.clapHueStep }
      (fun _ => ⟨stepped s.clapHue s.config.clapHueStep, 255#8, 255#8⟩) := by
  rw [tickClapToggle, if_pos h, State.allHSV_render, stepCounter_eq_stepped]

theorem tickClapToggle_of_still (h : s.motionFlag = false) : tickClapToggle s = framed s s.px := by
  rw [tickClapToggle, if_neg (by simp [h]), State.render_eq_framed]

theorem tickClapPulse_of_motion (h : s.motionFlag = true) :
    tickClapPulse s = frameHSV { s with motionFlag := false, cpBright := 255#8 }
      (fun _ => ⟨s.cfg.hsv.h, s.cfg.hsv.s, 255#8⟩) := by
  rw [tickClapPulse, if_pos h, State.allHSV_render]

theorem tickClapPulse_of_still (h : s.motionFlag = false) :
    tickClapPulse s = frameHSV { s with cpBright := clapDecay s.config s.cpBright }
      (fun _ => ⟨s.cfg.hsv.h, s.cfg.hsv.s, clapDecay s.config s.cpBright⟩) := by
  rw [tickClapPulse, if_neg (by simp [h]), State.allHSV_render, ← h]

theorem tickWaveRainbow_of_motion (h : s.motionFlag = true) :
    tickWaveRainbow s = frameHSV { s with motionFlag := false, waveHue := stepped s.waveHue s.config.waveHueStep }
      (fun _ => ⟨stepped s.waveHue s.config.waveHueStep, s.config.waveSat, s.config.waveVal⟩) := by
  rw [tickWaveRainbow, if_pos h, State.allHSV_render, stepCounter_eq_stepped]

theorem tickWaveRainbow_of_still (h : s.motionFlag = false) : tickWaveRainbow s = s := if_neg (by simp [h])

end

/-- Settles O29, by the equations of each tick rule with and without motion. -/
theorem motionModeTicks : Obligations.MotionModeTicks := by
  refine fun i s => ⟨fun hmotion => ⟨fun h => ?_, fun h => ?_, fun h => ?_⟩,
    fun hstill => ⟨fun h => ?_, ?_, fun h => ?_⟩⟩
  · rw [exec_of_ticks (m := .clapToggle) h, tickRule, tickClapToggle_of_motion hmotion]
  · rw [exec_of_ticks (m := .clapPulse) h, tickRule, tickClapPulse_of_motion hmotion]
  · rw [exec_of_ticks (m := .waveRainbow) h, tickRule, tickWaveRainbow_of_motion hmotion]
  · rw [exec_of_ticks (m := .clapToggle) h, tickRule, tickClapToggle_of_still hstill]
  · rintro v rfl h
    rw [exec_of_ticks (m := .clapPulse) h, tickRule, tickClapPulse_of_still hstill, clapDecay_eq]
  · rw [exec_of_ticks (m := .waveRainbow) h, tickRule, tickWaveRainbow_of_still hstill]

/-! The interpolation (R204). -/

/-- The way from an endpoint to the other at weight `w`, truncated toward zero, is part of the whole way `d`. -/
theorem tdiv_weight_bounds {d : Int} (hd : 0 ≤ d) (w : Byte) :
    0 ≤ tdiv (d * w.toNat) 255 ∧ tdiv (d * w.toNat) 255 ≤ d := by
  have hnonneg : 0 ≤ d * w.toNat := Int.mul_nonneg hd (Int.natCast_nonneg _)
  have hle : d * w.toNat ≤ d * 255 := Int.mul_le_mul_of_nonneg_left (by have := w.isLt; omega) hd
  rw [tdiv, Int.tdiv_eq_ediv_of_nonneg hnonneg]
  omega

theorem tdiv_neg_weight (d : Int) (w : Byte) : tdiv (-d * w.toNat) 255 = -tdiv (d * w.toNat) 255 := by
  rw [tdiv, Int.neg_mul, Int.neg_tdiv]
  rfl

/-- The interpolated number, before it is narrowed. -/
def lerpInt (a b w : Byte) : Int := a.toNat + tdiv ((b.toNat - a.toNat) * w.toNat) 255

theorem lerp_eq_wrap8 (a b w : Byte) : lerp a b w = wrap8 (lerpInt a b w) := rfl

theorem lerpInt_bounds (a b w : Byte) :
    (min a.toNat b.toNat : Int) ≤ lerpInt a b w ∧ lerpInt a b w ≤ (max a.toNat b.toNat : Int) := by
  unfold lerpInt
  rcases Nat.le_total a.toNat b.toNat with hab | hba
  · have hbounds := tdiv_weight_bounds (d := b.toNat - a.toNat) (by omega) w
    omega
  · have hbounds := tdiv_weight_bounds (d := a.toNat - b.toNat) (by omega) w
    rw [← Int.neg_sub, tdiv_neg_weight]
    omega

/-- Narrowing loses nothing: the endpoints are bytes. -/
theorem toNat_lerp (a b w : Byte) : ((lerp a b w).toNat : Int) = lerpInt a b w := by
  have hbounds := lerpInt_bounds a b w
  have ha := a.isLt
  have hb := b.isLt
  rw [lerp_eq_wrap8, wrap8, BitVec.toNat_ofInt]
  omega

theorem lerpInt_zero (a b : Byte) : lerpInt a b 0#8 = a.toNat := by
  simp [lerpInt, tdiv]

theorem lerpInt_full (a b : Byte) : lerpInt a b 255#8 = b.toNat := by
  have hway : tdiv (((b.toNat : Int) - a.toNat) * (255#8).toNat) 255 = b.toNat - a.toNat :=
    Int.mul_tdiv_cancel _ (by decide)
  rw [lerpInt, hway]
  omega

theorem lerp_eq_of_lerpInt {a b w c : Byte} (h : lerpInt a b w = c.toNat) : lerp a b w = c := by
  rw [lerp_eq_wrap8, h, wrap8_natCast, BitVec.ofNat_toNat, BitVec.setWidth_eq]

/-- Settles O30: the two bounds of the interpolated number, and its value at the end weights. -/
theorem colorShiftStaysBetweenItsEndpoints : Obligations.ColorShiftStaysBetweenItsEndpoints := by
  intro a b w
  have hvalue := toNat_lerp a b w
  have hbounds := lerpInt_bounds a b w
  exact ⟨by omega, by omega, lerp_eq_of_lerpInt (lerpInt_zero a b), lerp_eq_of_lerpInt (lerpInt_full a b)⟩

end Sys2Proof.Machine
end

section
/-! PROOFS. The Waveform Encoder (R221 to R223) and the line function of one frame (R228): obligations O52 and O54. By R3
the two data codes differ, so a bit can be told from its code; each property of a frame is then the same property of a
colour byte, carried to the three bytes of a pixel and to the pixels of the frame. -/

namespace Sys2Proof

open Claims

/-! The code of a bit and the codes of a byte (R221). -/

theorem dataCode_injective {c : Cfg} (hc : c.WaveOk) : Function.Injective (dataCode c) := by
  obtain ⟨-, -, hdiffer⟩ := codeWords_ne hc
  intro a b h
  cases a <;> cases b
  case false.true => exact absurd h.symm hdiffer
  case true.false => exact absurd h hdiffer
  all_goals rfl

/-- The bits of a byte, most significant first. -/
def byteBits (x : Byte) : List Bool := [7, 6, 5, 4, 3, 2, 1, 0].map x.getLsbD

theorem encodeByte_eq_map (c : Cfg) (x : Byte) : encodeByte c x = (byteBits x).map (dataCode c) := rfl

theorem count_true_byteBits (x : Byte) : (byteBits x).count true = onesOf x := by
  have hbits : byteBits x = ((List.range 8).map x.getLsbD).reverse := rfl
  rw [hbits, List.count_reverse, List.count_eq_countP, List.countP_map, List.countP_eq_length_filter, onesOf]
  simp only [Function.comp_def, beq_true]

theorem count_long_encodeByte {c : Cfg} (hc : c.WaveOk) (x : Byte) :
    (encodeByte c x).count (codeLongWord c) = onesOf x :=
  calc (encodeByte c x).count (codeLongWord c)
      = ((byteBits x).map (dataCode c)).count (dataCode c true) := rfl
    _ = (byteBits x).count true := List.count_map_of_injective _ _ (dataCode_injective hc) _
    _ = onesOf x := count_true_byteBits x

theorem encodeByte_injective {c : Cfg} (hc : c.WaveOk) : Function.Injective (encodeByte c) := by
  intro x y h
  apply BitVec.eq_of_getLsbD_eq
  intro b hb
  have hcodes : some (dataCode c (x.getLsbD b)) = some (dataCode c (y.getLsbD b)) := by
    rw [← encodeByte_get c x (by omega), ← encodeByte_get c y (by omega), h]
  exact dataCode_injective hc (Option.some.inj hcodes)

/-! The 24 codes of a pixel (R65, R222). -/

/-- The codes of a colour: of a pixel the encoder reads the RGB form only (R220). -/
def encodeColour (c : Cfg) (x : RGB) : List Code := encodeByte c x.g ++ encodeByte c x.r ++ encodeByte c x.b

theorem encodePixel_eq_encodeColour (c : Cfg) (p : Pixel) : encodePixel c p = encodeColour c p.rgb := rfl

theorem encodeColour_injective {c : Cfg} (hc : c.WaveOk) : Function.Injective (encodeColour c) := by
  intro x y h
  obtain ⟨hgr, hb⟩ := List.append_inj' h (by simp only [encodeByte_length])
  obtain ⟨hg, hr⟩ := List.append_inj' hgr (by simp only [encodeByte_length])
  have hinj := encodeByte_injective hc
  exact (RGB.mk.injEq ..).mpr ⟨hinj hr, hinj hg, hinj hb⟩

theorem count_long_encodePixel {c : Cfg} (hc : c.WaveOk) (p : Pixel) :
    (encodePixel c p).count (codeLongWord c) = onesOf p.rgb.r + onesOf p.rgb.g + onesOf p.rgb.b := by
  rw [encodePixel, List.count_append, List.count_append]
  simp only [count_long_encodeByte hc]
  omega

theorem encodeColour_black (c : Cfg) : encodeColour c Machine.black = List.replicate 24 (codeShortWord c) :=
  Machine.encodePixel_black c ⟨0#8, 0#8, 0#8⟩

/-- Every bit of a white pixel is a long code (R222). -/
theorem encodeColour_white (c : Cfg) :
    encodeColour c ⟨255#8, 255#8, 255#8⟩ = List.replicate 24 (codeLongWord c) := by
  simp [encodeColour, encodeByte, dataCode, List.replicate]

/-! The whole buffer (R222, R223). -/

/-- A frame whose pixels are all of one colour that has one code repeats that code. -/
theorem encodePixels_of_uniform {c : Cfg} {px : List Pixel} {x : RGB} {w : Code}
    (hx : encodeColour c x = List.replicate 24 w) (hpx : ∀ p ∈ px, p.rgb = x) :
    encodePixels c px = List.replicate c.resetCodes codeZeroWord ++ List.replicate (24 * px.length) w := by
  have hcodes : px.map (encodePixel c) = List.replicate px.length (List.replicate 24 w) := by
    rw [List.eq_replicate_iff]
    refine ⟨List.length_map _, List.forall_mem_map.mpr fun p hp => ?_⟩
    rw [encodePixel_eq_encodeColour, hpx p hp, hx]
  rw [encodePixels, List.flatMap_def, hcodes, List.flatten_replicate_replicate, Nat.mul_comm]

theorem count_long_encodePixels {c : Cfg} (hc : c.WaveOk) (px : List Pixel) :
    (encodePixels c px).count (codeLongWord c) =
      (px.map (fun p => onesOf p.rgb.r + onesOf p.rgb.g + onesOf p.rgb.b)).sum := by
  obtain ⟨-, hlong, -⟩ := codeWords_ne hc
  rw [encodePixels, List.count_append, List.count_replicate, List.count_flatMap]
  simp [hlong.symm, Function.comp_def, count_long_encodePixel hc]

/-- A buffer is cut into its pixels in one way: each pixel has 24 codes. -/
theorem encodePixels_eq_iff_map {c : Cfg} {px qx : List Pixel} (hlen : px.length = qx.length) :
    encodePixels c px = encodePixels c qx ↔ px.map (encodePixel c) = qx.map (encodePixel c) := by
  have hlengths : (px.map (encodePixel c)).map List.length = (qx.map (encodePixel c)).map List.length := by
    simp [Function.comp_def, encodePixel_length, hlen]
  rw [encodePixels, encodePixels, List.append_cancel_left_eq, List.flatMap_def, List.flatMap_def,
    List.eq_iff_flatten_eq, and_iff_left hlengths]

theorem map_encodePixel (c : Cfg) (px : List Pixel) :
    px.map (encodePixel c) = (px.map Pixel.rgb).map (encodeColour c) := by
  rw [List.map_map]
  rfl

theorem encodePixels_eq_iff {c : Cfg} (hc : c.WaveOk) {px qx : List Pixel} (hlen : px.length = qx.length) :
    encodePixels c px = encodePixels c qx ↔ px.map Pixel.rgb = qx.map Pixel.rgb := by
  rw [encodePixels_eq_iff_map hlen, map_encodePixel, map_encodePixel,
    (encodeColour_injective hc).list_map.eq_iff]

theorem encodePixels_take_resetCodes (c : Cfg) (px : List Pixel) :
    (encodePixels c px).take c.resetCodes = List.replicate c.resetCodes codeZeroWord :=
  List.take_left' List.length_replicate

/-- Settles O52: one lemma for each item of R223. -/
theorem encodedFrameShape : Obligations.EncodedFrameShape := by
  intro c px ⟨hwave, _⟩ hlen
  refine ⟨?_, ?_, ?_, count_long_encodePixels hwave px, ?_, encodePixels_take_resetCodes c px⟩
  · rw [encodePixels_length, hlen]
  · intro hblack
    rw [encodePixels_of_uniform (encodeColour_black c) hblack, hlen]
    rfl
  · intro hwhite
    rw [encodePixels_of_uniform (encodeColour_white c) hwhite, hlen]
    rfl
  · intro qx hqlen
    exact encodePixels_eq_iff hwave (hlen.trans hqlen.symm)

/-! The line function of one frame (R228). -/

theorem polOf_eq (w : Code) : polOf w = decide (w.toNat / 32768 = 1) := by
  have hlt := w.isLt
  rw [polOf, BitVec.getLsbD, Nat.testBit_eq_decide_div_mod_eq, decide_eq_decide]
  omega

/-- R228, with the fields of the code as numbers. -/
theorem slotLevel_eq (c : Cfg) (w : Code) (j : Nat) : slotLevel c w j =
    decide (w.toNat / 32768 = 1 ∧ j < min (w.toNat % 32768) c.slotTicks) := by
  rw [slotLevel, polOf_eq, cmpOf, Bool.decide_and]

section

variable {c : Cfg} {frame : List Code} {n : Nat}

theorem lineAt_of_get {w : Code} (hw : frame[n / c.slotTicks]? = some w) :
    lineAt c frame n = slotLevel c w (n % c.slotTicks) := by
  simp only [lineAt, hw]

theorem lineAt_past_end (hslot : 0 < c.slotTicks) (hn : frame.length * c.slotTicks ≤ n) : lineAt c frame n = false := by
  have hnone : frame[n / c.slotTicks]? = none :=
    List.getElem?_eq_none ((Nat.le_div_iff_mul_le hslot).mpr hn)
  simp only [lineAt, hnone]

/-- In the slot of a code with `POL = 1` the line is high for the code's ticks. -/
theorem lineAt_of_dutyCode {k : Nat} (hk : k ≤ c.slotTicks) (hmax : k ≤ 32767)
    (hw : frame[n / c.slotTicks]? = some (dutyCode k)) : lineAt c frame n = decide (n % c.slotTicks < k) := by
  rw [lineAt_of_get hw, slotLevel_dutyCode c hk hmax]

end

theorem lineAt_encodePixels_quiescent (c : Cfg) (px : List Pixel) {n : Nat} (hn : n < c.resetCodes * c.slotTicks) :
    lineAt c (encodePixels c px) n = false := by
  have hzero : (encodePixels c px)[n / c.slotTicks]? = some (dutyCode 0) :=
    encodePixels_get_prefix c px (Nat.div_lt_of_lt_mul (by rwa [Nat.mul_comm]))
  rw [lineAt_of_dutyCode (Nat.zero_le _) (Nat.zero_le _) hzero]
  rfl

/-- Settles O54: the slot's code decides the line, and R3 fits both data codes into a slot. -/
theorem lineOfAFrame : Obligations.LineOfAFrame := by
  intro c px n ⟨⟨_, hshort, hlong, hmax, hquiescent⟩, _⟩ hlen
  have hslot : 0 < c.slotTicks := by omega
  refine ⟨fun frame => ⟨fun w hw => ?_, lineAt_past_end hslot⟩, lineAt_encodePixels_quiescent c px, hquiescent,
    fun hn => ?_, fun k j bit hj hcode => ?_⟩
  · rw [lineAt_of_get hw, slotLevel_eq]
  · exact lineAt_past_end hslot (by rwa [encodePixels_length, hlen])
  · have hticks : (if bit then c.longTicks else c.shortTicks) ≤ c.slotTicks := by split <;> omega
    have hdiv : (k * c.slotTicks + j) / c.slotTicks = k := by
      rw [Nat.mul_comm, Nat.mul_add_div hslot, Nat.div_eq_of_lt hj, Nat.add_zero]
    have hmod : (k * c.slotTicks + j) % c.slotTicks = j := Nat.mul_add_mod_of_lt hj
    rw [lineAt_of_dutyCode hticks (hticks.trans hmax) (by rwa [hdiv]), hmod]

end Sys2Proof
end

section
/-! PROOFS. The cooldown of the clap tier over time (R138, R242 to R244): obligation O45. No expiry rule of a live block
starts or cancels T_COOL (`SameCooldown`), so that n TB do to it what n counts do. -/

namespace Sys2Proof.Machine

open Claims

/-! The expiries and the cooldown. -/

/-- `t` is live, with the cooldown of `s`. -/
structure SameCooldown (s t : State) : Prop where
  live : Live t
  cool : t.timers.cool = s.timers.cool

theorem SameCooldown.refl {s : State} (hlive : Live s) : SameCooldown s s := ⟨hlive, rfl⟩

theorem SameCooldown.trans {s t u : State} (h : SameCooldown s t) (h' : SameCooldown t u) : SameCooldown s u :=
  ⟨h'.live, h'.cool.trans h.cool⟩

theorem exitEffect_cool (s : State) : s.exitEffect.timers.cool = s.timers.cool := by
  unfold State.exitEffect
  split <;> rfl

/-- Only the entry to ShuttingDown cancels the cooldown (R135). -/
theorem transition_cool (s : State) {new : OpState} (hnew : new ≠ .shuttingDown) :
    (s.transition new).timers.cool = s.timers.cool := by
  by_cases hadv : new = .advertising
  · obtain ⟨-, htimers⟩ := s.transition_advertising_bank
    rw [hadv, htimers]
    exact exitEffect_cool s
  · obtain ⟨-, htimers⟩ := s.transition_plain_bank hadv hnew
    rw [htimers]
    exact exitEffect_cool s

theorem longPress_cool (s : State) : (longPress s).timers.cool = s.timers.cool := by
  unfold longPress
  split
  · rfl
  · dsimp only
    split
    · exact transition_cool { s with lpArmed := false } (new := .advertising) nofun
    · exact transition_cool { s with lpArmed := false } (new := .idle) nofun
    · exact transition_cool { s with lpArmed := false } (new := .idle) nofun
    all_goals rfl -- the three states in which a long press only clears `lp_armed`

section

variable {before : Timers} {s : State}

theorem expire_live (hlive : Live s) (t : TimerId) : Live (expire t s) := by
  by_cases ht : t = .long
  · rw [ht]
    exact (longPress_samePress hlive).live
  · exact (expire_samePress hlive ht).live

theorem expire_cool (hlive : Live s) (t : TimerId) : (expire t s).timers.cool = s.timers.cool := by
  cases t with
  | long => exact longPress_cool s
  | cool => rfl
  | batt => rw [expire, requestSample_of_live hlive, State.emit_timers]
  | adv =>
    rw [expire, advertisingTimeout]
    split
    · exact transition_cool s nofun
    · rfl
  | off => rw [expire, powerOff_of_live hlive]
  | tick =>
    obtain ⟨-, -, -, htimers⟩ := animationExpiry_frame s
    exact congrArg Timers.cool htimers

theorem fireIfExpired_sameCooldown (hlive : Live s) (t : TimerId) : SameCooldown s (fireIfExpired before s t) := by
  unfold fireIfExpired
  split
  · exact ⟨expire_live hlive t, expire_cool hlive t⟩
  · exact .refl hlive

theorem foldl_fire_sameCooldown (hlive : Live s) (l : List TimerId) :
    SameCooldown s (l.foldl (fireIfExpired before) s) := by
  induction l generalizing s with
  | nil => exact .refl hlive
  | cons t l ih =>
    have hturn := fireIfExpired_sameCooldown (before := before) hlive t
    exact hturn.trans (ih hturn.live)

end

/-! TB and the cooldown. -/

/-- A TB does nothing to the cooldown but count it (R138). -/
theorem afterTb_cool {s : State} (hlive : Live s) :
    Live (afterTb s) ∧ (afterTb s).timers.cool = counted s.timers.cool false s.config.cooldownMs := by
  have hcounted : s.countTimers.timers.cool = counted s.timers.cool false s.config.cooldownMs :=
    Timer.count_eq_counted _ _ _
  rw [afterTb_of_alive (alive_of_live hlive)]
  obtain ⟨hlive', hcool⟩ := foldl_fire_sameCooldown (before := s.timers) (s := s.countTimers) hlive timerOrder
  exact ⟨hlive', hcool.trans hcounted⟩

theorem counted_armed_succ {ms : Nat} (hms : 0 < ms) (hmax : ms + 1 < 2 ^ 32) (rep : Bool) (full : BitVec 32) :
    counted (armed (BitVec.ofNat 32 (ms + 1))) rep full = armed (BitVec.ofNat 32 ms) := by
  have hrem : (BitVec.ofNat 32 (ms + 1)).toNat = ms + 1 := by
    rw [BitVec.toNat_ofNat, Nat.mod_eq_of_lt hmax]
  simp only [counted, armed, hrem, if_true, if_pos (show 1 < ms + 1 by omega), Nat.add_sub_cancel]

/-- A single-shot timer at its last millisecond disarms (R138). -/
theorem counted_armed_one (full : BitVec 32) : counted (armed 1#32) false full = off := rfl

section

variable {s : State} {full : BitVec 32}

theorem iterate_cooling (hlive : Live s) (hcool : s.timers.cool = armed full) {n : Nat} (hn : n < full.toNat) :
    Live (afterTb^[n] s) ∧ (afterTb^[n] s).timers.cool = armed (BitVec.ofNat 32 (full.toNat - n)) := by
  induction n with
  | zero =>
    refine ⟨hlive, hcool.trans ?_⟩
    rw [Nat.sub_zero, BitVec.ofNat_toNat, BitVec.setWidth_eq]
  | succ n ih =>
    obtain ⟨hbefore, hrem⟩ := ih (by omega)
    obtain ⟨hafter, hcounted⟩ := afterTb_cool hbefore
    have hsplit : full.toNat - n = full.toNat - (n + 1) + 1 := by omega
    have hmax := full.isLt
    rw [Function.iterate_succ_apply']
    refine ⟨hafter, ?_⟩
    rw [hcounted, hrem, hsplit, counted_armed_succ (by omega) (by omega)]

/-- The last TB of a cooldown ends it. -/
theorem iterate_cooled (hlive : Live s) (hcool : s.timers.cool = armed full) (hfull : 0 < full.toNat) :
    Live (afterTb^[full.toNat] s) ∧ (afterTb^[full.toNat] s).timers.cool = off := by
  obtain ⟨n, hn⟩ := Nat.exists_eq_succ_of_ne_zero hfull.ne'
  obtain ⟨hbefore, hrem⟩ := iterate_cooling hlive hcool (n := n) (by omega)
  obtain ⟨hafter, hcounted⟩ := afterTb_cool hbefore
  have hlast : full.toNat - n = 1 := by omega
  rw [hn, Function.iterate_succ_apply']
  refine ⟨hafter, ?_⟩
  rw [hcounted, hrem, hlast, counted_armed_one]

/-- R243: while the cooldown runs, a sample in a clap mode is only measured. -/
theorem exec_accel_of_cooling (hlive : Live s) (hcool : s.timers.cool.armed = true)
    (hmode : s.animMode ∈ [AnimMode.clapToggle, .clapPulse]) (x y z : Half) :
    exec (.accel x y z) s = .next (jerked s x y z) := by
  have hclap : detect (jerked s x y z) = detectClap (jerked s x y z) := detect_of_clap hmode
  have hshut : detectClap (jerked s x y z) = jerked s x y z := detectClap_neg (.inr hcool)
  rw [exec_accel hlive, hclap, hshut]

end

/-- Settles O45: the cooldown after n TB is running (`iterate_cooling`) or over (`iterate_cooled`). -/
theorem cooldownGatesTheClapTier : Obligations.CooldownGatesTheClapTier := by
  intro s n full hlive hcool hfull
  refine ⟨fun hn => ?_, ?_⟩
  · obtain ⟨hafter, hrem⟩ := iterate_cooling hlive hcool hn
    have harmed : (afterTb^[n] s).timers.cool.armed = true := congrArg Timer.armed hrem
    exact ⟨_, runScript_scriptTb n s, hafter, hrem,
      fun x y z hmode => exec_accel_of_cooling hafter harmed hmode x y z⟩
  · rintro rfl
    exact ⟨_, runScript_scriptTb _ s, iterate_cooled hlive hcool (by bv_omega)⟩

end Sys2Proof.Machine
end

section
/-! PROOFS. The Group Payload Codec (R250 to R253, R255): obligations O50 and O51. A descriptor and a composite payload are read as
numbers whose digits are their fields; `pack` and `Compose` write the digits and `unpack` and `Extract` divide them out
again, so that each round trip is arithmetic. -/

namespace Sys2Proof.Machine

open Claims

/-- Appending a field below is a digit to the base `2 ^ k`. -/
theorem append_toNat {n k : Nat} (x : BitVec n) (y : BitVec k) : (x ++ y).toNat = x.toNat * 2 ^ k + y.toNat := by
  rw [BitVec.toNat_append, ← Nat.shiftLeft_add_eq_or_of_lt y.isLt, Nat.shiftLeft_eq]

/-! The descriptor (R250, R251, R255). -/

theorem pack_toNat (m : BitVec 5) (c : RGB) :
    (pack m c).toNat =
      m.toNat * 2 ^ 16 + c.r.toNat / 8 * 2 ^ 11 + c.g.toNat / 4 * 2 ^ 5 + c.b.toNat / 8 := by
  have hr := c.r.isLt
  have hg := c.g.isLt
  have hb := c.b.isLt
  simp only [pack, append_toNat, BitVec.extractLsb'_toNat, Nat.shiftRight_eq_div_pow]
  omega

theorem descColor_r_toNat (d : BitVec 21) : (descColor d).r.toNat = d.toNat / 2048 % 32 * 8 := by
  rw [descColor, BitVec.toNat_ofNat, Nat.mod_eq_of_lt (by omega)]

theorem descColor_g_toNat (d : BitVec 21) : (descColor d).g.toNat = d.toNat / 32 % 64 * 4 := by
  rw [descColor, BitVec.toNat_ofNat, Nat.mod_eq_of_lt (by omega)]

theorem descColor_b_toNat (d : BitVec 21) : (descColor d).b.toNat = d.toNat % 32 * 8 := by
  rw [descColor, BitVec.toNat_ofNat, Nat.mod_eq_of_lt (by omega)]

/-- R255: a packed mode comes back whole. -/
theorem unpack_pack_mode (m : BitVec 5) (c : RGB) : (unpack (pack m c)).mode = m := by
  have hr := c.r.isLt
  have hg := c.g.isLt
  have hb := c.b.isLt
  apply BitVec.eq_of_toNat_eq
  rw [unpack_mode_toNat, pack_toNat]
  omega

section

variable (m : BitVec 5) (c : RGB)

/-! R255: a packed channel comes back without its low bits. -/

theorem unpack_pack_r : (unpack (pack m c)).color.r.toNat = c.r.toNat - c.r.toNat % 8 := by
  have hr := c.r.isLt
  have hg := c.g.isLt
  have hb := c.b.isLt
  rw [unpack_color, descColor_r_toNat, pack_toNat]
  omega

theorem unpack_pack_g : (unpack (pack m c)).color.g.toNat = c.g.toNat - c.g.toNat % 4 := by
  have hg := c.g.isLt
  have hb := c.b.isLt
  rw [unpack_color, descColor_g_toNat, pack_toNat]
  omega

theorem unpack_pack_b : (unpack (pack m c)).color.b.toNat = c.b.toNat - c.b.toNat % 8 := by
  have hb := c.b.isLt
  rw [unpack_color, descColor_b_toNat, pack_toNat]
  omega

end

/-- R255: the bits that `pack` drops are zero in an unpacked colour. -/
theorem pack_unpack (d : BitVec 21) : pack (unpack d).mode (unpack d).color = d := by
  apply BitVec.eq_of_toNat_eq
  rw [pack_toNat, unpack_mode_toNat, unpack_color, descColor_r_toNat, descColor_g_toNat, descColor_b_toNat]
  omega

/-- Settles O50: every field is a digit of `pack_toNat`, and the two round trips follow. -/
theorem packAndUnpackRoundTrip : Obligations.PackAndUnpackRoundTrip :=
  ⟨fun m c => ⟨pack_toNat m c, unpack_pack_mode m c, unpack_pack_r m c, unpack_pack_g m c, unpack_pack_b m c⟩,
   fun d => ⟨unpack_mode_toNat d, unpack_color d, pack_unpack d⟩⟩

/-! The composite payload (R252, R253). -/

section

variable (d0 d1 d2 : BitVec 21)

/-- R252: the descriptors are the digits of the payload to the base `2 ^ 21`. -/
theorem compose_toNat : (compose d0 d1 d2).toNat = d0.toNat + 2 ^ 21 * d1.toNat + 2 ^ 42 * d2.toNat := by
  rw [compose, append_toNat, append_toNat]
  omega

theorem extractDesc_compose_zero : extractDesc (compose d0 d1 d2) 0 = d0 :=
  BitVec.extractLsb'_append_eq_right

theorem extractDesc_compose_one : extractDesc (compose d0 d1 d2) 1 = d1 := by
  have h0 := d0.isLt
  have h1 := d1.isLt
  apply BitVec.eq_of_toNat_eq
  rw [extractDesc_toNat, compose_toNat]
  omega

theorem extractDesc_compose_two : extractDesc (compose d0 d1 d2) 2 = d2 := by
  have h0 := d0.isLt
  have h1 := d1.isLt
  have h2 := d2.isLt
  apply BitVec.eq_of_toNat_eq
  rw [extractDesc_toNat, compose_toNat]
  omega

end

/-- Settles O51: `Extract` divides out a digit of any payload, hence of `compose_toNat`. -/
theorem extractUndoesCompose : Obligations.ExtractUndoesCompose := fun d0 d1 d2 =>
  ⟨extractDesc_compose_zero d0 d1 d2, extractDesc_compose_one d0 d1 d2, extractDesc_compose_two d0 d1 d2,
   compose_toNat d0 d1 d2, fun P slot => extractDesc_toNat P slot.val⟩

end Sys2Proof.Machine
end

section
/-! PROOFS. Foreign words at the waveform port (R109; U6): obligation O7. A word is read as a number, and one whose number is
not that of a code word is refused. -/

namespace Sys2Proof.Machine

theorem dutyCode_toNat (k : Nat) : (dutyCode k).toNat = (0x8000 + k) % 65536 := BitVec.toNat_ofNat ..

theorem ofLE16_eq_dutyCode_iff (lo hi : Byte) (k : Nat) :
    ofLE16 lo hi = dutyCode k ↔ lo.toNat + 256 * hi.toNat = (0x8000 + k) % 65536 := by
  rw [← BitVec.toNat_inj, ofLE16_toNat, dutyCode_toNat]

/-- R109: the decoder of the waveform port reads the encoder's words only. -/
theorem decodeDuty_of_not_isDutyCode {c : Cfg} {w : Code} (h : ¬ isDutyCode c w) :
    decodeDuty c (toLE16 w) = .error .noSuchDutyCode := by
  obtain ⟨hzero, hshort, hlong⟩ : w ≠ codeZeroWord ∧ w ≠ codeShortWord c ∧ w ≠ codeLongWord c := by
    simpa only [isDutyCode, not_or] using h
  rw [decodeDuty_toLE16, if_neg hzero, if_neg hshort, if_neg hlong]

/-- Settles O7: a word whose number is not that of a code word does not decode, and the waveform port refuses what does
not. -/
theorem foreignDutyCodeIsRefused : Obligations.ForeignDutyCodeIsRefused := by
  intro s lo hi rest hinbox hzero hshort hlong
  have hfetch : fetch s = some (⟨.waveform, [lo, hi]⟩, { s with inbox := rest }) :=
    (fetch_eq_some s _ _).mpr ⟨rest, hinbox, rfl⟩
  have hforeign : ¬ isDutyCode s.config (ofLE16 lo hi) := by
    rintro (h | h | h)
    · exact hzero ((ofLE16_eq_dutyCode_iff lo hi 0).mp h)
    · exact hshort ((ofLE16_eq_dutyCode_iff lo hi _).mp h)
    · exact hlong ((ofLE16_eq_dutyCode_iff lo hi _).mp h)
  have hdecode : decodeDuty s.config [lo, hi] = .error .noSuchDutyCode :=
    toLE16_ofLE16 lo hi ▸ decodeDuty_of_not_isDutyCode hforeign
  exact step_of_decode_error hfetch hdecode

end Sys2Proof.Machine
end
